-- ==== Sys2Proof/Word.lean ====
section
/-!
DEFINITION. The two word types of the core (spec/00_scope.md R9): 8-bit registers and bus bytes, 16-bit samples.
-/

namespace Sys2Proof

/-- An 8-bit register or a byte on the bus (R9: bit 0 is the least significant bit). -/
abbrev Byte := BitVec 8

/-- A conversion result or the Sample Register (R24, R45). -/
abbrev Half := BitVec 16

/-- A level of the data line or a one-bit register: `true` is 1. -/
abbrev Level := Bool

end Sys2Proof
end

