-- ==== Sys2Proof/Config.lean ====
section
/-!
DEFINITION. What an instance of the core fixes: the layout parameters of spec/00_scope.md R7 as a record, with the
constraints R7 puts on them, and the launch parameters of R8 as free values (opaque: nothing can be proved of them).
The numbers themselves (the constants of R6 and the defaults of R7) are in Machine/Parameters.lean.
-/

namespace Sys2Proof

/-- One row of `CH_TABLE` (R7): a channel code and the analog-enable masks of its positive and its negative pin. -/
structure Channel where
  code : Byte
  pinP : Byte
  pinN : Byte
  deriving DecidableEq, Repr

/-- The layout parameters of R7 (decisions D11, D12, D14): no rule depends on their values. -/
structure Params where
  /-- `M_DF`: the data-format bit of `CCL`. -/
  mDF : Byte
  /-- `M_CFG`: the five configuration bits of `CCH` that opcode 0xA1 may change. -/
  mCfg : Byte
  /-- `M_MODE`: the continuous-mode bit of `CCH`. -/
  mMode : Byte
  /-- `MODE_CONT_LEVEL`: the level of the mode bit that means continuous. -/
  modeContLevel : Level
  /-- `M_UNI`: the polarity bit of `CCH`; 1 means unipolar. -/
  mUni : Byte
  /-- `M_INCH`: the channel-selection field of `INCTL`. -/
  mInch : Byte
  /-- `M_GAIN`: the gain field of `INCTL`, which the core never interprets. -/
  mGain : Byte
  /-- `CH_TABLE`: the supported channels. -/
  chTable : List Channel
  deriving DecidableEq, Repr

/-- `M_OSR` (R7): `M_CFG` minus `M_MODE` minus `M_UNI`; the core never interprets the field. -/
def Params.mOsr (p : Params) : Byte := p.mCfg &&& ~~~p.mMode &&& ~~~p.mUni

/-- How many of the eight bits of a mask are set. -/
def maskBits (m : Byte) : Nat := ((List.range 8).filter (fun i => m.getLsbD i)).length

/-- The constraints R7 puts on the parameters: one-bit masks, five configuration bits holding the mode and the
polarity bit, a channel field of contiguous low bits, a gain field disjoint from it, three channels with distinct
codes inside the channel field. -/
def Params.wellFormed (p : Params) : Bool :=
  maskBits p.mDF == 1 && maskBits p.mCfg == 5
    && maskBits p.mMode == 1 && p.mMode &&& p.mCfg == p.mMode
    && maskBits p.mUni == 1 && p.mUni &&& p.mCfg == p.mUni && p.mUni != p.mMode
    && p.mInch &&& (p.mInch + 1) == 0
    && p.mGain &&& p.mInch == 0
    && p.chTable.length == 3
    && (p.chTable.map Channel.code).Nodup
    && p.chTable.all (fun e => e.code &&& p.mInch == e.code)

/-- The launch parameters of R8: what the excluded bring-up leaves in the core before the first bus event. -/
structure Launch where
  ccl0 : Byte
  cch0 : Byte
  inctl0 : Byte
  ie0 : Level
  ae0 : Byte
  sample0 : Half
  deriving DecidableEq, Repr

/-- `CCL0` (R8): a free value, log 2. -/
opaque Config.ccl0 : Byte
/-- `CCH0` (R8): a free value, log 2. -/
opaque Config.cch0 : Byte
/-- `INCTL0` (R8): a free value, log 2. -/
opaque Config.inctl0 : Byte
/-- `IE0` (R8): a free value, log 2. -/
opaque Config.ie0 : Level
/-- `AE0` (R8): a free value, log 2. -/
opaque Config.ae0 : Byte
/-- `SAMPLE0` (R8, R254): the content of the Sample Register before the first conversion, a free draw, log 2. -/
opaque Config.sample0 : Half

/-- The launch parameters of this instance, every one a free value (R8; 93_implementation_defined.md U6, U7). -/
def Config.launch : Launch :=
  ⟨Config.ccl0, Config.cch0, Config.inctl0, Config.ie0, Config.ae0, Config.sample0⟩

end Sys2Proof
end

