-- ==== Sys2Proof/Machine/Parameters.lean ====
section
/-!
DEFINITION. The numbers of spec/00_scope.md: the constants of R6, which the source fixes, and the default layout of R7.
-/

namespace Sys2Proof

/-- `SLAVE_ADDR` (R6, R61, R242): the device's 7-bit bus address, constant from the bring-up on. -/
def slaveAddr : BitVec 7 := 0x0B

/-- `OP_CCL` (R6): write channelControlLow. -/
def opCcl : Byte := 0xA0
/-- `OP_CCH` (R6): write channelControlHigh. -/
def opCch : Byte := 0xA1
/-- `OP_INCTL` (R6): write inputControl. -/
def opInctl : Byte := 0xB0
/-- `OP_CONV` (R6): the conversion command pseudo-register. -/
def opConv : Byte := 0xFF

/-- `FILLER` (R6): the dummy byte sent after the second byte of a read. -/
def filler : Byte := 0xFF

/-- `CMD_LEN` (R6): payload bytes of a write transaction, the bound of `rxCount`. -/
def cmdLen : Nat := 2
/-- `TX_LEN` (R6): sample bytes of a read transaction, the bound of `txCount`. -/
def txLen : Nat := 2
/-- `ADDR_BITS` (R6): bits armed for the address byte; every data byte arms as many (R145, R152). -/
def addrBits : Nat := 8
/-- `ACK_BITS` (R6): bits armed for an acknowledgment. -/
def ackBits : Nat := 1

/-- What "load acknowledgment" puts into `SR` (R127). -/
def ackByte : Byte := 0x00
/-- What "load no-acknowledgment" puts into `SR` (R127). -/
def nackByte : Byte := 0xFF

/-- The default layout of R7 (decisions D11, D12, D14). -/
def defaultParams : Params where
  mDF := 0x10
  mCfg := 0x1F
  mMode := 0x04
  modeContLevel := true
  mUni := 0x10
  mInch := 0x07
  mGain := 0x38
  chTable := [⟨0, 0x01, 0x02⟩, ⟨1, 0x04, 0x08⟩, ⟨2, 0x10, 0x20⟩]

end Sys2Proof
end

