-- ==== Sys2Proof/Syntax.lean ====
section
/-!
DEFINITION. The instructions: one constructor per row of spec/opcode_table.json (spec/00_scope.md R11 says what an
instruction of this hardware is). Operands that a rule ignores (R96) are kept, so that encoding drops no bit.
-/

namespace Sys2Proof

/-- The 18 rows of the opcode table: six commands (format CMD, R93, R97), three address classes (format ADDR, R91) and
nine service steps (format STATE, R102). -/
inductive Instr where
  /-- `WRCCL`: opcode 0xA0 with its value byte (R171). -/
  | wrccl (val : Byte)
  /-- `WRCCH`: opcode 0xA1 with its value byte (R172). -/
  | wrcch (val : Byte)
  /-- `WRINCTL`: opcode 0xB0 with its value byte (R173). -/
  | wrinctl (val : Byte)
  /-- `CONVSTART`: opcode 0xFF, value bit 0 set; `ign` is value bits 7:1, which nothing reads (R174, R191). -/
  | convstart (ign : BitVec 7)
  /-- `CONVSTOP`: opcode 0xFF, value bit 0 clear; `ign` is value bits 7:1, which nothing reads (R174, R194). -/
  | convstop (ign : BitVec 7)
  /-- `IGNORED`: any other opcode, with its value byte (R175). -/
  | ignored (op val : Byte)
  /-- `ADDRW`: the address byte 0x16 (R143). -/
  | addrw
  /-- `ADDRR`: the address byte 0x17 (R143). -/
  | addrr
  /-- `ADDRMISS`: any other address byte, as its 7-bit address and its direction bit (R143). -/
  | addrmiss (addr7 : BitVec 7) (rw : Level)
  /-- `Idle`, state 0 (R144). -/
  | idle
  /-- `AddrCount`, state 2 (R142). -/
  | addrCount
  /-- `AddrMatch`, state 4 (R143). -/
  | addrMatch
  /-- `RxByte`, state 6 (R145). -/
  | rxByte
  /-- `RxEval`, state 8 (R146, R147). -/
  | rxEval
  /-- `TxByte`, state 10 (R148). -/
  | txByte
  /-- `AckWait`, state 12 (R149). -/
  | ackWait
  /-- `AckEval`, state 14 (R151). -/
  | ackEval
  /-- `Abort`, state 16 (R154). -/
  | abort
  deriving DecidableEq, Repr

end Sys2Proof
end

