-- ==== Sys2Proof/WellFormed.lean ====
section
/-!
DEFINITION. Which instruction terms stand for words: the two catch-all rows of the opcode table (spec/30_encoding.md
R97, R103) take only the words that no earlier row takes.
-/

namespace Sys2Proof

/-- The four opcodes that have rows of their own (R70, R98). -/
def definedOpcode (op : Byte) : Bool := op == opCcl || op == opCch || op == opInctl || op == opConv

/-- An `IGNORED` command has an opcode without a row of its own (R175); an `ADDRMISS` has another device's address
(R143); every other term stands for a word whatever its operands are. -/
def Instr.wellFormed : Instr → Bool
  | .ignored op _ => !definedOpcode op
  | .addrmiss addr7 _ => addr7 != slaveAddr
  | .wrccl _ => true
  | .wrcch _ => true
  | .wrinctl _ => true
  | .convstart _ => true
  | .convstop _ => true
  | .addrw => true
  | .addrr => true
  | .idle => true
  | .addrCount => true
  | .addrMatch => true
  | .rxByte => true
  | .rxEval => true
  | .txByte => true
  | .ackWait => true
  | .ackEval => true
  | .abort => true

end Sys2Proof
end

