-- ==== Sys2Proof/Decode.lean ====
section
/-!
DEFINITION. The decoder and the encoder (spec/30_encoding.md R91, R93, R97, R102, R103). There are three decoding
spaces, one per format: which one a byte belongs to is a matter of where it comes from (the payload of a write
transaction, the byte after a start condition, the `state` register), not of its bits.
-/

namespace Sys2Proof

/-- The three formats of the opcode table (R103). -/
inductive Format where
  /-- A two-byte command `[opcode, value]` (R93). -/
  | cmd
  /-- An address byte (R91). -/
  | addr
  /-- A state id (R102). -/
  | state
  deriving DecidableEq, Repr

/-- Why bytes are no instruction of a format. -/
inductive Reject where
  /-- Fewer bytes than the format has. Safe: the model stops, nothing is run. -/
  | truncated
  /-- The byte is no state id (R30, R102: "Odd values and values above 16 are not states"). Safe, for the same reason. -/
  | notAState (id : Byte)
  deriving DecidableEq, Repr

/-- The format of each row. -/
def Instr.format : Instr → Format
  | .wrccl _ => .cmd
  | .wrcch _ => .cmd
  | .wrinctl _ => .cmd
  | .convstart _ => .cmd
  | .convstop _ => .cmd
  | .ignored _ _ => .cmd
  | .addrw => .addr
  | .addrr => .addr
  | .addrmiss _ _ => .addr
  | .idle => .state
  | .addrCount => .state
  | .addrMatch => .state
  | .rxByte => .state
  | .rxEval => .state
  | .txByte => .state
  | .ackWait => .state
  | .ackEval => .state
  | .abort => .state

/-- A byte from its bits 7:1 and its bit 0: `(high << 1) | low`. -/
def joinBit (high : BitVec 7) (low : Level) : Byte := (high.setWidth 8 <<< 1) ||| (if low then 1 else 0)

/-- An address byte (R61, R91): `(deviceAddress << 1) | rwBit`. -/
def addressByte (addr7 : BitVec 7) (rw : Level) : Byte := joinBit addr7 rw

/-- Bits 7:1 of a byte: the address of an address byte (R91), the ignored bits of a conversion command (R96). -/
def highSeven (b : Byte) : BitVec 7 := b.extractLsb' 1 7

/-- Bit 0 of a byte: the direction of an address byte (R91), start or stop in a conversion command (R96). -/
def bitZero (b : Byte) : Level := b.getLsbD 0

/-- Format CMD (R97): the full 8 bits of the opcode decide, and bit 0 of the value for the conversion command. -/
def decodeCommand (op val : Byte) : Instr :=
  if op = opCcl then .wrccl val
  else if op = opCch then .wrcch val
  else if op = opInctl then .wrinctl val
  else if op = opConv then
    if bitZero val then .convstart (highSeven val) else .convstop (highSeven val)
  else .ignored op val

/-- Format ADDR (R91, R97): the two bytes that carry the core's own address, then the catch-all. -/
def decodeAddress (b : Byte) : Instr :=
  if b = addressByte slaveAddr false then .addrw
  else if b = addressByte slaveAddr true then .addrr
  else .addrmiss (highSeven b) (bitZero b)

/-- Format STATE (R102): the nine ids, and nothing else. -/
def decodeStateId (id : Byte) : Except Reject Instr :=
  if id = 0 then .ok .idle
  else if id = 2 then .ok .addrCount
  else if id = 4 then .ok .addrMatch
  else if id = 6 then .ok .rxByte
  else if id = 8 then .ok .rxEval
  else if id = 10 then .ok .txByte
  else if id = 12 then .ok .ackWait
  else if id = 14 then .ok .ackEval
  else if id = 16 then .ok .abort
  else .error (.notAState id)

/-- The decoder: the instruction at the head of the bytes of a format, with the bytes after it. -/
def decode : Format → List Byte → Except Reject (Instr × List Byte)
  | .cmd, op :: val :: rest => .ok (decodeCommand op val, rest)
  | .addr, b :: rest => .ok (decodeAddress b, rest)
  | .state, id :: rest => (decodeStateId id).map (fun i => (i, rest))
  | _, _ => .error .truncated

/-- A value byte of the conversion command, from its ignored bits and its bit 0 (R96). -/
def conversionValue (ign : BitVec 7) (start : Level) : Byte := joinBit ign start

/-- The bytes of an instruction in the order they travel (R64: opcode first, value second). -/
def encode : Instr → List Byte
  | .wrccl val => [opCcl, val]
  | .wrcch val => [opCch, val]
  | .wrinctl val => [opInctl, val]
  | .convstart ign => [opConv, conversionValue ign true]
  | .convstop ign => [opConv, conversionValue ign false]
  | .ignored op val => [op, val]
  | .addrw => [addressByte slaveAddr false]
  | .addrr => [addressByte slaveAddr true]
  | .addrmiss addr7 rw => [addressByte addr7 rw]
  | .idle => [0]
  | .addrCount => [2]
  | .addrMatch => [4]
  | .rxByte => [6]
  | .rxEval => [8]
  | .txByte => [10]
  | .ackWait => [12]
  | .ackEval => [14]
  | .abort => [16]

/-- The instruction decoded from bytes that hold exactly one, if they do. -/
def decodeWhole (f : Format) (bytes : List Byte) : Option Instr :=
  match decode f bytes with
  | .ok (i, []) => some i
  | .ok (_, _ :: _) => none
  | .error _ => none

/-- The instruction a word of the opcode table stands for, with its bits numbered as the table numbers them: a 16-bit
word is a command, the opcode in bits 15:8 (R93). The table has two 8-bit formats and a word does not say which it is
of: a state id is read as a STATE row and every other byte as an ADDR row (log 11), which keeps apart every row the
table gives fixed bits. -/
def decodeTableWord (nbits w : Nat) : Option Instr :=
  if nbits = 16 then
    if w < 65536 then decodeWhole .cmd [BitVec.ofNat 8 (w / 256), BitVec.ofNat 8 w] else none
  else if nbits = 8 then
    if w < 256 then
      match decodeWhole .state [BitVec.ofNat 8 w] with
      | some i => some i
      | none => decodeWhole .addr [BitVec.ofNat 8 w]
    else none
  else none

end Sys2Proof
end

