-- ==== Sys2Proof/Machine/State.lean ====
section
/-!
DEFINITION. The state of the core (spec/10_state.md R20, whose record is complete), the reasons a step can stop, and
the state after hardware reset (R52, R240). Plain data. The last four fields are the model's own: the spec counts them
among the constants and inputs of a run (R7, R13, R15, R50).
-/

namespace Sys2Proof.Machine

/-- The nine values of `state`, the program counter of the core (R30, R102). Other numbers are not representable. -/
inductive StateId where
  | idle | addrCount | addrMatch | rxByte | rxEval | txByte | ackWait | ackEval | abort
  deriving DecidableEq, Repr

/-- `direction` (R32). -/
inductive Direction where
  | write | read
  deriving DecidableEq, Repr

/-- `TXSEL`, the Transmission Selector: an enumeration with one value (R48). -/
inductive Selector where
  | selSample
  deriving DecidableEq, Repr

/-- The environment events and their payload (R13). -/
inductive Event where
  /-- The master signals a start condition (R124). -/
  | start
  /-- The master signals a stop condition (R125). -/
  | stop
  /-- One pulse of the bus clock with the master's contribution to the data line (R121, R122). -/
  | clock (m : Level)
  /-- The converter finished a conversion with this result (R190). -/
  | adcComplete (v : Half)
  deriving DecidableEq, Repr

/-- The machine has no fault: "The hardware has no exception mechanism" (R10, R210), no access can fault (R71) and no
step can (R222), so the type has no constructor and nobody raises one (log 14). Safe: no claim rests on a stop. -/
inductive Fault where
  deriving DecidableEq, Repr

/-- Why a step is refused. -/
inductive Refusal where
  /-- Raised by an arm of `exec` for an instruction without a meaning. No arm raises it here. Safe: nothing is run. -/
  | notModelled (mnemonic : String)
  /-- Raised by `takeEvent` for an `AdcComplete` event while `SC = 0`, which is no move of the hardware (R190;
  93_implementation_defined.md U14: refuse). Safe: the model offers no such move (log 8). -/
  | completionNotEnabled
  deriving DecidableEq, Repr

/-- The state record. Flags and one-bit registers are `true` when they hold 1. -/
structure State where
  /-- `state`, the program counter (R30). -/
  state : StateId
  /-- `direction` (R32). -/
  direction : Direction
  /-- `rxCount`, 0 to 2 (R33). -/
  rxCount : Nat
  /-- `txCount`, 0 to 2 (R33). -/
  txCount : Nat
  /-- `cmd[0]`, the opcode (R34). -/
  cmd0 : Byte
  /-- `cmd[1]`, the value (R34). -/
  cmd1 : Byte
  /-- `SR`, the shift register (R39). -/
  sr : Byte
  /-- `CNT`, the bits still to shift, 0 to 8 (R40). -/
  cnt : Nat
  /-- `OE`, output enable of the data line (R41). -/
  oe : Level
  /-- `STTIFG`, the start flag (R35). -/
  sttifg : Level
  /-- `CNTIFG`, the other flag of the transport interrupt (R36). -/
  cntifg : Level
  /-- `TIE`, enable of the transport interrupt (R42). -/
  tie : Level
  /-- `CCL`, channelControlLow (R21). -/
  ccl : Byte
  /-- `CCH`, channelControlHigh (R22). -/
  cch : Byte
  /-- `INCTL`, inputControl (R23). -/
  inctl : Byte
  /-- `IE`, enable of the ADC completion interrupt (R43). -/
  ie : Level
  /-- `SC`, the converter's start bit (R44). -/
  sc : Level
  /-- `ADCIFG`, the conversion-complete flag (R37). -/
  adcifg : Level
  /-- `ADCRES`, the converted value (R45). -/
  adcres : Half
  /-- `SAMPLE`, the Sample Register (R24). -/
  sample : Half
  /-- `TXSEL`, the Transmission Selector (R48). -/
  txsel : Selector
  /-- `AE`, the analog routing (R46). -/
  ae : Byte
  /-- `WAIT`, single-shot busy-wait in progress (R49). -/
  wait : Level
  /-- The layout parameters of R7: constant, no step writes them (log 3). -/
  params : Params
  /-- Whether the bring-up of R242 has been done (log 4). -/
  broughtUp : Bool
  /-- The environment events still to come, next one first (R13, log 5). -/
  events : List Event
  /-- The line levels the clock pulses have returned, newest first (R15, R121, log 6). -/
  levels : List Level
  deriving DecidableEq, Repr

/-- The state after hardware reset: the column "after hardware reset" of R52 (R240). `SAMPLE` is unspecified there and
holds 0x0000 (DESIGN CHOICE, log 1) until the bring-up draws `SAMPLE0`. -/
def State.reset : State where
  state := .idle
  direction := .write
  rxCount := 0
  txCount := 0
  cmd0 := 0x00
  cmd1 := 0x00
  sr := 0x00
  cnt := 0
  oe := false
  sttifg := false
  cntifg := false
  tie := false
  ccl := 0x00
  cch := 0x00
  inctl := 0x00
  ie := false
  sc := false
  adcifg := false
  adcres := 0x0000
  sample := 0x0000
  txsel := .selSample
  ae := 0x00
  wait := false
  params := defaultParams
  broughtUp := false
  events := []
  levels := []

end Sys2Proof.Machine
end

