-- ==== Sys2Proof/Machine/Ops.lean ====
section
/-!
DEFINITION. The shared operations: the data line and the shift engine (spec/40_shift_engine.md), the transaction
context and the command buffer (spec/10_state.md), the transmit fetch (spec/20_memory.md), the entry of a transport
service and the return from one (spec/41_transport_fsm.md R140, R141; spec/60_exceptions.md R220, R221), and the
bring-up (spec/70_reset_and_hazards.md R242).
-/

namespace Sys2Proof.Machine

/-! ## The data line and the shift engine -/

/-- `sda_pull` (R120, R121): the core pulls the data line low iff it drives and bit 7 of `SR` is 0. -/
def sdaPull (s : State) : Level := s.oe && !s.sr.getLsbD 7

/-- The level the line carries while the master contributes `m` (R121): wired-AND of the master and the core. -/
def lineLevel (m : Level) (s : State) : Level := if m = false ∨ sdaPull s = true then false else true

/-- One left shift of `SR`: bit 7 leaves, the line level enters at bit 0 (R122). -/
def shiftIn (sr : Byte) (l : Level) : Byte := (sr <<< 1) ||| (if l then 1 else 0)

/-- Part 2 of a pulse (R122): with bits left to shift, shift one in and raise `CNTIFG` at the last; with none, nothing. -/
def shiftStep (l : Level) (s : State) : State :=
  if 0 < s.cnt then
    { s with sr := shiftIn s.sr l, cnt := s.cnt - 1, cntifg := if s.cnt - 1 = 0 then true else s.cntifg }
  else s

/-- `ArmIn(n)` (R126). -/
def armIn (n : Nat) (s : State) : State := { s with oe := false, cnt := n }

/-- `ArmOut(n)` (R126). -/
def armOut (n : Nat) (s : State) : State := { s with oe := true, cnt := n }

/-- `Release()` (R126). -/
def release (s : State) : State := { s with oe := false }

/-- `Load(v)` (R126, R127). -/
def load (v : Byte) (s : State) : State := { s with sr := v }

/-! ## The transaction context and the command buffer -/

/-- `ctx_reset()` (R33). -/
def ctxReset (s : State) : State := { s with direction := .write, rxCount := 0, txCount := 0 }

/-- `state <- id` (R10, R30). -/
def goto (q : StateId) (s : State) : State := { s with state := q }

/-- `cmd[i] <- b` (R10, R34): the buffer has two registers, and the guard of R146 keeps `i` below 2. -/
def setCmd (i : Nat) (b : Byte) (s : State) : State :=
  match i with
  | 0 => { s with cmd0 := b }
  | 1 => { s with cmd1 := b }
  | _ + 2 => s

/-- The clearing of the command buffer after it is consumed (R34, D10). -/
def clearCmd (s : State) : State := { s with cmd0 := 0x00, cmd1 := 0x00 }

/-! ## The transmit fetch -/

/-- The 16-bit value `TXSEL` refers to (R48, R62): always the Sample Register. -/
def selected (s : State) : Half :=
  match s.txsel with
  | .selSample => s.sample

/-- `TxFetch(off)`, the load of this hardware (R10, R62): byte `off` of the selected value as it is now. -/
def txFetch (off : Nat) (s : State) : Byte := (selected s).extractLsb' (8 * off) 8

/-- The read window (R60, R62, R70): the two bytes of the sample, then the filler at every later offset. -/
def readWindow (off : Nat) (s : State) : Byte := if off < txLen then txFetch off s else filler

/-! ## Entry and return of a transport service -/

/-- `StartEntry` (R141): a context reset and the jump to `AddrCount`, from whatever state. -/
def startEntry (s : State) : State := goto .addrCount (ctxReset s)

/-- Taking the transport interrupt (R140, R219, R220): nothing is saved and no mask changes; a pending start forces the
jump of `StartEntry` before the dispatch. -/
def enterService (s : State) : State := if s.sttifg then startEntry s else s

/-- The return from a transport service (R140, R221): the handler clears its flag, unless a single-shot wait has
suspended it, in which case `WaitDone` does so later. -/
def endService (s : State) : State := if s.wait then s else { s with cntifg := false }

/-! ## The bring-up -/

/-- `BringUp` (R242) with these launch parameters. `SAMPLE` is not written by the bring-up: it is unspecified at launch
(R52), so this is where the model draws `SAMPLE0` (log 2). -/
def bringUpWith (l : Launch) (s : State) : State :=
  { s with tie := true, cch := l.cch0, ccl := l.ccl0, inctl := l.inctl0, ae := l.ae0, ie := l.ie0,
           sample := l.sample0, broughtUp := true }

/-- The bring-up of this instance: the launch parameters are free values (R8). -/
def bringUp (s : State) : State := bringUpWith Config.launch s

end Sys2Proof.Machine
end

