-- ==== Sys2Proof/Machine/Operands.lean ====
section
/-!
DEFINITION. The fields of the configuration registers and of the value byte (spec/10_state.md R21 to R23,
spec/30_encoding.md R96), the channel table lookup and the exported registers (R47).
-/

namespace Sys2Proof.Machine

/-- `isCont(c)` (R22): the mode bit of `c` stands at the level that means continuous. -/
def isCont (p : Params) (c : Byte) : Bool := (c &&& p.mMode != 0) == p.modeContLevel

/-- `isSingle(c)` (R22). -/
def isSingle (p : Params) (c : Byte) : Bool := !isCont p c

/-- `isUni(c)` (R22): the polarity bit of `c` is set. -/
def isUni (p : Params) (c : Byte) : Bool := c &&& p.mUni != 0

/-- `(old & ~mask) | (new & mask)`: the bits of `mask` replaced (R171, R172). -/
def mergeBits (mask old new : Byte) : Byte := (old &&& ~~~mask) ||| (new &&& mask)

/-- `CCL.DF` (R21). -/
def dfField (s : State) : Byte := s.ccl &&& s.params.mDF

/-- `CCH.OSR` (R22): exported to the converter, never interpreted. -/
def osrField (s : State) : Byte := s.cch &&& s.params.mOsr

/-- `INCTL.INCH` (R23): the selected channel. -/
def inchField (s : State) : Byte := s.inctl &&& s.params.mInch

/-- `INCTL.GAIN` (R23): exported to the converter, never interpreted. -/
def gainField (s : State) : Byte := s.inctl &&& s.params.mGain

/-- The entry of `CH_TABLE` with this code, if the channel is supported (R176). -/
def lookupChannel (p : Params) (ch : Byte) : Option Channel := p.chTable.find? (fun e => e.code == ch)

/-- The analog routing that belongs to a configuration (R176): one pin if unipolar, a pair if bipolar, none for an
unsupported channel. -/
def routing (p : Params) (cch inctl : Byte) : Byte :=
  match lookupChannel p (inctl &&& p.mInch) with
  | some e => if isUni p cch then e.pinP else e.pinP ||| e.pinN
  | none => 0x00

/-- The exported registers (R47): what the converter and the analog multiplexer read at all times. -/
structure Exported where
  ccl : Byte
  cch : Byte
  inctl : Byte
  sc : Level
  ae : Byte
  deriving DecidableEq, Repr

/-- The exported registers of a state (R15, R47). -/
def exported (s : State) : Exported := ⟨s.ccl, s.cch, s.inctl, s.sc, s.ae⟩

end Sys2Proof.Machine
end

