-- ==== Sys2Proof/Machine/Flags.lean ====
section
/-!
DEFINITION. The flags: when each internal step is enabled (spec/00_scope.md R14, spec/60_exceptions.md R217, R218) and
the interrupt enable derived from the mode (spec/42_register_protocol.md R172). There are no condition codes (R38).
-/

namespace Sys2Proof.Machine

/-- The three internal steps of the core (R12). -/
inductive Internal where
  | waitDone | transport | adc
  deriving DecidableEq, Repr

/-- `WaitDone` is enabled (R14, R196). -/
def waitDoneEnabled (s : State) : Bool := s.wait && s.adcifg

/-- `TransportService` is enabled (R14, R217). -/
def transportEnabled (s : State) : Bool := !s.wait && s.tie && (s.sttifg || s.cntifg)

/-- `AdcService` is enabled (R14, R198, R218). -/
def adcEnabled (s : State) : Bool := !s.wait && s.ie && s.adcifg

/-- The internal step that R14 performs next, if any is enabled. -/
def enabledStep (s : State) : Option Internal :=
  if waitDoneEnabled s then some .waitDone
  else if transportEnabled s then some .transport
  else if adcEnabled s then some .adc
  else none

/-- `IE` re-derived from a configuration (R172): 1 in continuous mode, 0 in single-shot mode. -/
def derivedIe (p : Params) (cch : Byte) : Level := isCont p cch

end Sys2Proof.Machine
end

