-- ==== Sys2Proof/Machine/ShiftEngine.lean ====
section
/-!
DEFINITION. The bus events (spec/40_shift_engine.md): `Clock(m)`, `Start`, `Stop`. Each is total and atomic; the
service steps they enable run afterwards (R14).
-/

namespace Sys2Proof.Machine

/-- `Clock(m)` (R121, R122): the line level is computed and returned, then shifted in if bits are armed. -/
def clockEvent (m : Level) (s : State) : State :=
  shiftStep (lineLevel m s) { s with levels := lineLevel m s :: s.levels }

/-- `Start` (R124): the start flag, and nothing else. -/
def startEvent (s : State) : State := { s with sttifg := true }

/-- `Stop` (R125): the core does not detect it. -/
def stopEvent (s : State) : State := s

/-- Several pulses, the first of the list first (R123). -/
def clockAll : List Level → State → State
  | [], s => s
  | m :: ms, s => clockAll ms (clockEvent m s)

end Sys2Proof.Machine
end

