-- ==== Sys2Proof/Machine/AdcController.lean ====
section
/-!
DEFINITION. The ADC trigger and result-latch controller (spec/43_adc_controller.md): the converter's completion event,
starting and stopping a conversion, the end of a single-shot wait, the completion interrupt; and the meanings of
`CONVSTART` and `CONVSTOP`.
-/

namespace Sys2Proof.Machine

/-- What a completion does when the hardware allows it (R190). -/
def adcLatch (v : Half) (s : State) : State :=
  { s with adcres := v, adcifg := true, sc := if isSingle s.params s.cch then false else s.sc }

/-- `AdcComplete(v)` (R190): enabled only while `SC = 1`; otherwise it is no move of the hardware (U14). -/
def adcCompleteEvent (v : Half) (s : State) : Host.Outcome State Fault Refusal :=
  if s.sc then .next (adcLatch v s) else .refused .completionNotEnabled

/-- `startConversion()` (R191 to R193): the start bit, then the wait in single-shot mode or the repointing of the
selector in continuous mode. -/
def startConversion (s : State) : State :=
  if isSingle s.params s.cch then { s with sc := true, wait := true }
  else { s with sc := true, txsel := .selSample }

/-- `stopConversion()` (R194). -/
def stopConversion (s : State) : State := { s with sc := false }

/-- `WaitDone` (R196): the copy of the result and the remainder of the suspended `RxEval` step. -/
def waitDone (s : State) : State :=
  let copied := { s with sample := s.adcres, txsel := .selSample, adcifg := false, wait := false }
  let finished := goto .idle (ctxReset (release (load nackByte (clearCmd copied))))
  { finished with cntifg := false }

/-- `AdcService` (R198): the completion interrupt handler. -/
def adcService (s : State) : State := { s with sample := s.adcres, adcifg := false }

/-- `CONVSTART` (R174, R191): the ignored bits of the value are not read. -/
def execConvstart (_ign : BitVec 7) (s : State) : Host.Outcome State Fault Refusal := .next (startConversion s)

/-- `CONVSTOP` (R174, R194): the ignored bits of the value are not read. -/
def execConvstop (_ign : BitVec 7) (s : State) : Host.Outcome State Fault Refusal := .next (stopConversion s)

end Sys2Proof.Machine
end

