-- ==== Sys2Proof/Machine/Protocol.lean ====
section
/-!
DEFINITION. The register protocol layer (spec/42_register_protocol.md): the configuration writes, the ignored opcodes,
re-routing, and `apply`, the store of this hardware (R10, R63).
-/

namespace Sys2Proof.Machine

/-- `reroute()` (R176): all of `AE` from the channel field of `INCTL` and the polarity bit of `CCH`. -/
def reroute (s : State) : State := { s with ae := routing s.params s.cch s.inctl }

/-- `WRCCL(val)` (R171) with the transient `changed` (R38), which it never sets. -/
def writeCcl (val : Byte) (s : State) : State × Bool :=
  if val &&& s.params.mDF = s.ccl &&& s.params.mDF then (s, false)
  else ({ s with ccl := mergeBits s.params.mDF s.ccl val }, false)

/-- `WRCCH(val)` (R172) with the transient `changed`. -/
def writeCch (val : Byte) (s : State) : State × Bool :=
  if val &&& s.params.mCfg = s.cch &&& s.params.mCfg then (s, false)
  else
    let cch := mergeBits s.params.mCfg s.cch val
    ({ s with cch := cch, ie := derivedIe s.params cch }, true)

/-- `WRINCTL(val)` (R173) with the transient `changed`. -/
def writeInctl (val : Byte) (s : State) : State × Bool :=
  if val = s.inctl then (s, false) else ({ s with inctl := val }, true)

/-- `CONV(val)` (R174): start or stop by bit 0 of the value; never sets `changed`. -/
def writeConv (val : Byte) (s : State) : State × Bool :=
  (if bitZero val then startConversion s else stopConversion s, false)

/-- The last line of `apply` (R170): re-route if the configuration changed. -/
def rerouteIfChanged (r : State × Bool) : State := if r.2 then reroute r.1 else r.1

/-- `apply(op, val)` (R170), decoding on the full 8 bits of the opcode. -/
def apply (op val : Byte) (s : State) : State :=
  rerouteIfChanged
    (if op = opCcl then writeCcl val s
     else if op = opCch then writeCch val s
     else if op = opInctl then writeInctl val s
     else if op = opConv then writeConv val s
     else (s, false))

/-- `WRCCL` (R171). -/
def execWrccl (val : Byte) (s : State) : Host.Outcome State Fault Refusal :=
  .next (rerouteIfChanged (writeCcl val s))

/-- `WRCCH` (R172). -/
def execWrcch (val : Byte) (s : State) : Host.Outcome State Fault Refusal :=
  .next (rerouteIfChanged (writeCch val s))

/-- `WRINCTL` (R173). -/
def execWrinctl (val : Byte) (s : State) : Host.Outcome State Fault Refusal :=
  .next (rerouteIfChanged (writeInctl val s))

/-- `IGNORED` (R175): "no-op (silently ignored; not an error)". -/
def execIgnored (_op _val : Byte) (s : State) : Host.Outcome State Fault Refusal := .next s

end Sys2Proof.Machine
end

