-- ==== Sys2Proof/Machine/Transport.lean ====
section
/-!
DEFINITION. The bus transport state machine (spec/41_transport_fsm.md): the three address classes and the nine service
steps. Each is the step of its state id alone; what the dispatcher adds around it (R140: `StartEntry` before, clearing
`CNTIFG` after) is in Machine/Service.lean.
-/

namespace Sys2Proof.Machine

/-! ## The address phase -/

/-- `AddrMatch` on a byte that names the core (R143): acknowledge, set the direction, go on. -/
def addressed (d : Direction) (q : StateId) (s : State) : State :=
  armOut ackBits { goto q (load ackByte s) with direction := d }

/-- `AddrMatch` on any other byte (R143): decline and abort; `direction` keeps its value. -/
def notAddressed (s : State) : State := armOut ackBits (goto .abort (load nackByte s))

/-- `ADDRW` (R143): the core is addressed for a write. -/
def execAddrw (s : State) : Host.Outcome State Fault Refusal := .next (addressed .write .rxByte s)

/-- `ADDRR` (R143): the core is addressed for a read. -/
def execAddrr (s : State) : Host.Outcome State Fault Refusal := .next (addressed .read .txByte s)

/-- `ADDRMISS` (R143): another device is addressed, "regardless of direction bit". -/
def execAddrmiss (_addr7 : BitVec 7) (_rw : Level) (s : State) : Host.Outcome State Fault Refusal :=
  .next (notAddressed s)

/-- State 2, `AddrCount` (R142). -/
def execAddrCount (s : State) : Host.Outcome State Fault Refusal :=
  .next (goto .addrMatch { armIn addrBits s with sttifg := false })

/-- State 4, `AddrMatch` (R143): the class of the shifted byte decides. -/
def execAddrMatch (s : State) : Host.Outcome State Fault Refusal :=
  if s.sr = addressByte slaveAddr (bitZero s.sr) then
    if bitZero s.sr then execAddrr s else execAddrw s
  else execAddrmiss (highSeven s.sr) (bitZero s.sr) s

/-- State 0, `Idle` (R144): no action. -/
def execIdle (s : State) : Host.Outcome State Fault Refusal := .next (goto .idle s)

/-! ## The receive path -/

/-- State 6, `RxByte` (R145). -/
def execRxByte (s : State) : Host.Outcome State Fault Refusal := .next (goto .rxEval (armIn addrBits s))

/-- The store of `RxEval` (R146): the shifted byte into the buffer, unless two bytes are there already. -/
def storeByte (s : State) : State :=
  if s.rxCount < cmdLen then { setCmd s.rxCount s.sr s with rxCount := s.rxCount + 1 } else s

/-- The acknowledgment decision of `RxEval` (R147). -/
def decideAck (s : State) : State :=
  if s.rxCount < cmdLen then goto .rxByte (armOut ackBits (load ackByte s))
  else goto .idle (ctxReset (release (load nackByte s)))

/-- The part of `RxEval` after `apply` (R146, R147). If `apply` started a single-shot wait the step is suspended
there, and `WaitDone` performs this part later (R140, R193, R196). -/
def afterApply (s : State) : State := if s.wait then s else decideAck (clearCmd s)

/-- State 8, `RxEval` (R146, R147). -/
def execRxEval (s : State) : Host.Outcome State Fault Refusal :=
  let stored := storeByte s
  if stored.rxCount = cmdLen then .next (afterApply (apply stored.cmd0 stored.cmd1 stored))
  else .next (decideAck stored)

/-! ## The transmit path -/

/-- `TxLoad` (R152): the next sample byte, or the filler once both are sent. -/
def txLoad (s : State) : State :=
  let loaded := if s.txCount < txLen then { load (txFetch s.txCount s) s with txCount := s.txCount + 1 }
    else load filler s
  goto .ackWait (armOut addrBits loaded)

/-- State 10, `TxByte` (R148). -/
def execTxByte (s : State) : Host.Outcome State Fault Refusal := .next (txLoad s)

/-- State 12, `AckWait` (R149). -/
def execAckWait (s : State) : Host.Outcome State Fault Refusal := .next (goto .ackEval (armIn ackBits s))

/-- State 14, `AckEval` (R151): bit 0 of `SR` is the master's acknowledgment, 1 for NACK (R128). -/
def execAckEval (s : State) : Host.Outcome State Fault Refusal :=
  if bitZero s.sr then .next (goto .idle (ctxReset (release s))) else .next (txLoad s)

/-- State 16, `Abort` (R154). -/
def execAbort (s : State) : Host.Outcome State Fault Refusal := .next (goto .idle (ctxReset (release s)))

end Sys2Proof.Machine
end

