-- ==== Sys2Proof/Machine/Dispatch.lean ====
section
/-!
DEFINITION. The dispatch of an instruction to its meaning: one arm per constructor of Instr, each one call.
-/

namespace Sys2Proof.Machine

def exec (i : Instr) (s : State) : Host.Outcome State Fault Refusal :=
  match i with
  -- format CMD: the register protocol layer and the ADC controller
  | .wrccl val => Sys2Proof.Machine.execWrccl val s
  | .wrcch val => Sys2Proof.Machine.execWrcch val s
  | .wrinctl val => Sys2Proof.Machine.execWrinctl val s
  | .convstart ign => Sys2Proof.Machine.execConvstart ign s
  | .convstop ign => Sys2Proof.Machine.execConvstop ign s
  | .ignored op val => Sys2Proof.Machine.execIgnored op val s
  -- format ADDR: the address classes
  | .addrw => Sys2Proof.Machine.execAddrw s
  | .addrr => Sys2Proof.Machine.execAddrr s
  | .addrmiss addr7 rw => Sys2Proof.Machine.execAddrmiss addr7 rw s
  -- format STATE: the service steps
  | .idle => Sys2Proof.Machine.execIdle s
  | .addrCount => Sys2Proof.Machine.execAddrCount s
  | .addrMatch => Sys2Proof.Machine.execAddrMatch s
  | .rxByte => Sys2Proof.Machine.execRxByte s
  | .rxEval => Sys2Proof.Machine.execRxEval s
  | .txByte => Sys2Proof.Machine.execTxByte s
  | .ackWait => Sys2Proof.Machine.execAckWait s
  | .ackEval => Sys2Proof.Machine.execAckEval s
  | .abort => Sys2Proof.Machine.execAbort s

end Sys2Proof.Machine
end

