-- ==== Sys2Proof/Machine/Service.lean ====
section
/-!
DEFINITION. The steps of the machine (spec/00_scope.md R12 to R14): `TransportService` with its fetch (spec/41_transport_fsm.md
R140), the internal steps, the environment events, one atomic step of the prompt-service discipline, and R14's
`macro_step`.
-/

namespace Sys2Proof.Machine

/-- The id of a state, as `state` holds it (R30, R102). -/
def stateCode : StateId → Byte
  | .idle => 0
  | .addrCount => 2
  | .addrMatch => 4
  | .rxByte => 6
  | .rxEval => 8
  | .txByte => 10
  | .ackWait => 12
  | .ackEval => 14
  | .abort => 16

/-- The service step a state id selects (R140): the STATE row of the opcode table with that id. -/
def stateInstr : StateId → Instr
  | .idle => .idle
  | .addrCount => .addrCount
  | .addrMatch => .addrMatch
  | .rxByte => .rxByte
  | .rxEval => .rxEval
  | .txByte => .txByte
  | .ackWait => .ackWait
  | .ackEval => .ackEval
  | .abort => .abort

/-- Apply a state update to an outcome that is a next state. -/
def mapNext (f : State → State) : Host.Outcome State Fault Refusal → Host.Outcome State Fault Refusal
  | .next s => .next (f s)
  | .fault r => .fault r
  | .refused r => .refused r

/-- `TransportService` (R140): the entry (with `StartEntry` if a start is pending), the step of the state id, the
return. -/
def transportService (s : State) : Host.Outcome State Fault Refusal :=
  mapNext endService (exec (stateInstr (enterService s).state) (enterService s))

/-- Perform one internal step (R14). -/
def runInternal (k : Internal) (s : State) : Host.Outcome State Fault Refusal :=
  match k with
  | .waitDone => .next (waitDone s)
  | .transport => transportService s
  | .adc => .next (adcService s)

/-- Perform one environment event (R13, R14). -/
def takeEvent (e : Event) (s : State) : Host.Outcome State Fault Refusal :=
  match e with
  | .start => .next (startEvent s)
  | .stop => .next (stopEvent s)
  | .clock m => .next (clockEvent m s)
  | .adcComplete v => adcCompleteEvent v s

/-- One step of a core that has been brought up: the internal step R14 selects, else the next event of the schedule,
else nothing (the idle sleep of R229; with `WAIT = 1`, the hang of R245). -/
def runningStep (s : State) : Host.Outcome State Fault Refusal :=
  match enabledStep s with
  | some k => runInternal k s
  | none =>
    match s.events with
    | [] => .next s
    | e :: es => takeEvent e { s with events := es }

/-- One atomic step of the machine: the bring-up comes first (R242, R243), then the core runs. -/
def nextStep (s : State) : Host.Outcome State Fault Refusal :=
  if s.broughtUp then runningStep s else .next (bringUp s)

/-- Internal steps until none is enabled, at most `fuel` of them (R14). -/
def settle : Nat → State → Host.Outcome State Fault Refusal
  | 0, s => .next s
  | fuel + 1, s =>
    match enabledStep s with
    | none => .next s
    | some k =>
      match runInternal k s with
      | .next t => settle fuel t
      | .fault r => .fault r
      | .refused r => .refused r

/-- `macro_step(e)` (R14): the event, then internal steps until none is enabled. Two always suffice. -/
def macroStep (e : Event) (s : State) : Host.Outcome State Fault Refusal :=
  match takeEvent e s with
  | .next t => settle 2 t
  | .fault r => .fault r
  | .refused r => .refused r

/-- Macro-steps for a list of events, the first first. -/
def macroRun : List Event → State → Host.Outcome State Fault Refusal
  | [], s => .next s
  | e :: es, s =>
    match macroStep e s with
    | .next t => macroRun es t
    | .fault r => .fault r
    | .refused r => .refused r

end Sys2Proof.Machine
end

