-- ==== Sys2Proof/Machine/Place.lean ====
section
/-!
DEFINITION. Placing an instruction where the next step fetches it. A service step is fetched from `state`, an address
class from `SR` when `state` is `AddrMatch`, a command from `cmd[0]` and `SR` when `state` is `RxEval` with one byte
received (spec/41_transport_fsm.md R140, R143, R146).
-/

namespace Sys2Proof.Machine

/-- A running core with a count event pending and nothing else: its next step is the service step of `q`. -/
def placeState (q : StateId) (s : State) : State :=
  { s with state := q, broughtUp := true, tie := true, wait := false, sttifg := false, cntifg := true }

/-- The state whose service step an instruction of format STATE names. -/
def stateOf : Instr → Option StateId
  | .idle => some .idle
  | .addrCount => some .addrCount
  | .addrMatch => some .addrMatch
  | .rxByte => some .rxByte
  | .rxEval => some .rxEval
  | .txByte => some .txByte
  | .ackWait => some .ackWait
  | .ackEval => some .ackEval
  | .abort => some .abort
  | .wrccl _ => none
  | .wrcch _ => none
  | .wrinctl _ => none
  | .convstart _ => none
  | .convstop _ => none
  | .ignored _ _ => none
  | .addrw => none
  | .addrr => none
  | .addrmiss _ _ => none

/-- A 16-bit command: the opcode in the buffer, the value just shifted in, `RxEval` about to run. -/
def placeCommand (op val : Byte) (s : State) : State :=
  { placeState .rxEval s with cmd0 := op, sr := val, rxCount := 1 }

/-- An 8-bit word: a state id goes into `state`, any other byte is an address byte just shifted in (log 11). -/
def placeByte (b : Byte) (s : State) : State :=
  match decodeStateId b with
  | .ok i =>
    match stateOf i with
    | some q => placeState q s
    | none => s
  | .error _ => { placeState .addrMatch s with sr := b }

/-- The word of a row of the opcode table, numbered as `decodeTableWord` reads it. -/
def placeWord (s : State) (nbits w : Nat) : State :=
  if nbits = 16 then placeCommand (BitVec.ofNat 8 (w / 256)) (BitVec.ofNat 8 w) s
  else if nbits = 8 then placeByte (BitVec.ofNat 8 w) s
  else s

end Sys2Proof.Machine
end

