-- ==== Sys2Proof/Machine/Script.lean ====
section
/-!
DEFINITION. The notation of the spec for bus traffic (spec/30_encoding.md R90 to R94, R100, R101) as lists of
environment events: the tokens, and the transactions each mnemonic and pseudo-instruction expands to.
-/

namespace Sys2Proof.Machine

/-- The bits of a byte in the order they travel: bit 7 first (R65). -/
def byteBits (b : Byte) : List Level :=
  [b.getLsbD 7, b.getLsbD 6, b.getLsbD 5, b.getLsbD 4, b.getLsbD 3, b.getLsbD 2, b.getLsbD 1, b.getLsbD 0]

/-- The token `W(xx)` (R100): eight data pulses, then the master releases the line for the acknowledgment slot. -/
def writeSlot (b : Byte) : List Event := (byteBits b).map Event.clock ++ [.clock true]

/-- The token `R(a)` (R100): eight pulses with the line released, then the master's acknowledgment level. -/
def readSlot (a : Level) : List Event := List.replicate 8 (Event.clock true) ++ [.clock a]

/-- A write transaction without its stop: `S W(addr) W(op) W(val)` (R92, R101). -/
def writeTransaction (op val : Byte) : List Event :=
  .start :: (writeSlot (addressByte slaveAddr false) ++ writeSlot op ++ writeSlot val)

/-- `CMD op, v` (R101): the whole write transaction with its stop. -/
def cmdScript (op val : Byte) : List Event := writeTransaction op val ++ [.stop]

/-- `WRCCL v`, `WRCCH v`, `WRINCTL v` (R101). -/
def wrcclScript (val : Byte) : List Event := cmdScript opCcl val
def wrcchScript (val : Byte) : List Event := cmdScript opCch val
def wrinctlScript (val : Byte) : List Event := cmdScript opInctl val

/-- `CONVSTART`, `CONVSTOP` (R101). -/
def convstartScript : List Event := cmdScript opConv 0x01
def convstopScript : List Event := cmdScript opConv 0x00

/-- The data slots of a read of `n + 1` bytes: `n` acknowledged, the last declined (R94, R101). -/
def readSlots : Nat → List Event
  | 0 => readSlot true
  | n + 1 => readSlot false ++ readSlots n

/-- A read transaction of `n + 1` bytes without its stop (R94). -/
def readTransaction (n : Nat) : List Event :=
  .start :: (writeSlot (addressByte slaveAddr true) ++ readSlots n)

/-- `READ (n + 1)`, `RDSAMPLE` (R101). -/
def readScript (n : Nat) : List Event := readTransaction n ++ [.stop]
def rdsampleScript : List Event := readScript 1

/-- `PROBE a` (R101). -/
def probeScript (a : BitVec 7) : List Event := .start :: (writeSlot (addressByte a false) ++ [.stop])

/-- The levels a read of `n + 1` bytes from offset `off` of the read window returns, first pulse first: the eight bits
of each byte, then the acknowledgment level the master sent (R94, R100). -/
def readLevels (s : State) : Nat → Nat → List Level
  | off, 0 => byteBits (readWindow off s) ++ [true]
  | off, n + 1 => byteBits (readWindow off s) ++ [false] ++ readLevels s (off + 1) n

end Sys2Proof.Machine
end

