-- ==== Sys2Proof/Machine/Step.lean ====
section
/-!
DEFINITION. The step of the machine, and placing an instruction where the next step fetches it.
-/

namespace Sys2Proof.Machine

/-- One atomic step (spec/00_scope.md R14; spec/70_reset_and_hazards.md R242). -/
def step (s : State) : Host.Outcome State Fault Refusal := nextStep s

/-- The state with this instruction word of the opcode table stored where `step` fetches its next instruction. -/
def State.withFetchWord (s : State) (nbits w : Nat) : State := placeWord s nbits w

end Sys2Proof.Machine
end

