-- ==== Sys2Proof/Safety.lean ====
section
/-!
DEFINITION. The terms claims are stated in: quiescence (spec/00_scope.md R14), the weaker step discipline
(spec/70_reset_and_hazards.md R252), the invariants of the reachable states (spec/10_state.md R53), and the
conditions under which a transaction or a service starts.
-/

namespace Sys2Proof.Safety

open Sys2Proof.Machine

/-- No internal step is enabled (R14): the only states in which prompt service takes an environment event. -/
def Quiescent (s : State) : Prop := enabledStep s = none

/-- A run that stops here is a hang (R15, R245): the core waits and no completion has arrived. -/
def Hung (s : State) : Prop := s.wait = true ∧ s.adcifg = false ∧ s.events = []

/-- The weaker discipline of R252: events arrive at any time, an enabled internal step may be delayed arbitrarily, and
the services run in any order (R216). Which event the environment sends is not taken from the schedule. -/
inductive FreeStep : State → State → Prop where
  | event {s t : State} (e : Event) (taken : takeEvent e s = .next t) : FreeStep s t
  | waitDone {s : State} (enabled : waitDoneEnabled s = true) : FreeStep s (waitDone s)
  | transport {s t : State} (enabled : transportEnabled s = true) (served : transportService s = .next t) :
      FreeStep s t
  | adc {s : State} (enabled : adcEnabled s = true) : FreeStep s (adcService s)

/-- The invariants of R53 that do not depend on prompt service, (a), (b), (c), (f) and (g), with the three facts that
carry them through a step: `CNTIFG` is set only with nothing left to shift, the line is released while a byte is being
received, and the buffer has room while it is. -/
structure FreeInv (s : State) : Prop where
  rx_le : s.rxCount ≤ cmdLen
  tx_le : s.txCount ≤ txLen
  cnt_le : s.cnt ≤ addrBits
  waiting : s.wait = true → s.state = .rxEval ∧ s.rxCount = 2 ∧ s.cntifg = true ∧ s.cnt = 0 ∧ s.oe = false ∧
    s.cmd0 = 0xFF ∧ s.cmd1.getLsbD 0 = true
  rx_state : 0 < s.rxCount → s.state = .rxByte ∨ s.state = .rxEval
  tx_state : 0 < s.txCount → s.state = .ackWait ∨ s.state = .ackEval
  selector : s.txsel = .selSample
  counted : s.cntifg = true → s.cnt = 0
  receiving : s.state = .rxEval → s.oe = false
  room : s.state = .rxByte ∨ s.state = .rxEval → s.wait = false → s.rxCount < cmdLen

/-- What the shift engine is armed for in each state between a service and the next count event (R53 (d)). -/
def Armed (s : State) : Prop :=
  match s.state with
  | .idle => s.cnt = 0 ∧ s.oe = false
  | .addrCount => False
  | .addrMatch => 1 ≤ s.cnt ∧ s.cnt ≤ 8
  | .rxEval => 1 ≤ s.cnt ∧ s.cnt ≤ 8
  | .ackWait => 1 ≤ s.cnt ∧ s.cnt ≤ 8
  | .rxByte => s.cnt = 1
  | .txByte => s.cnt = 1
  | .ackEval => s.cnt = 1
  | .abort => s.cnt = 1

/-- The invariant of prompt service: `FreeInv`; the transport interrupt is enabled from the bring-up on (R42); between
services the engine is armed as the state says; a count event is pending only in a state that armed something. -/
structure PromptInv (s : State) : Prop extends FreeInv s where
  listening : s.broughtUp = true → s.tie = true
  armed : s.wait = false → s.cntifg = false → Armed s
  pending : s.wait = false → s.cntifg = true → s.state ≠ .idle ∧ s.state ≠ .addrCount

/-- R53 as the spec lists it, (a) to (g). -/
structure SpecInvariants (s : State) : Prop where
  a : s.rxCount ≤ 2 ∧ s.txCount ≤ 2
  b : s.cnt ≤ 8
  c : s.wait = true → s.state = .rxEval ∧ s.rxCount = 2 ∧ s.cntifg = true ∧ s.cnt = 0 ∧ s.oe = false ∧
    s.cmd0 = 0xFF ∧ s.cmd1.getLsbD 0 = true
  d : Quiescent s → s.wait = false → s.tie = true → s.sttifg = false ∧ s.cntifg = false ∧
    (s.state = .idle → s.cnt = 0 ∧ s.oe = false) ∧
    (s.state = .addrMatch ∨ s.state = .rxEval ∨ s.state = .ackWait → 1 ≤ s.cnt ∧ s.cnt ≤ 8) ∧
    (s.state = .rxByte ∨ s.state = .txByte ∨ s.state = .ackEval ∨ s.state = .abort → s.cnt = 1) ∧
    s.state ≠ .addrCount
  e : Quiescent s → s.wait = false → s.adcifg = true → s.ie = false
  f : (0 < s.rxCount → s.state = .rxByte ∨ s.state = .rxEval) ∧
    (0 < s.txCount → s.state = .ackWait ∨ s.state = .ackEval)
  g : s.txsel = .selSample

/-- A running core that listens to the bus, does not wait, and has nothing to do: where a transaction may begin. -/
structure Ready (s : State) : Prop where
  up : s.broughtUp = true
  listening : s.tie = true
  idle : s.wait = false
  quiet : Quiescent s

/-- A running core with a count event pending, no start pending and no wait: the step of its state id runs next. -/
structure Serving (s : State) : Prop where
  up : s.broughtUp = true
  listening : s.tie = true
  idle : s.wait = false
  noStart : s.sttifg = false
  counted : s.cntifg = true

/-- At most one of the two services is due (R216): a transport service and the completion interrupt are not enabled
together, and before the bring-up no result is flagged (R52). -/
structure OneServiceDue (s : State) : Prop where
  resultAfterLaunch : s.broughtUp = false → s.adcifg = false
  apart : transportEnabled s = true → adcEnabled s = false

/-- The mode a configuration selects is continuous (R22), for any level of the mode bit. -/
def ContinuousMode (p : Params) (cch : Byte) : Prop := (cch &&& p.mMode ≠ 0) ↔ p.modeContLevel = true

/-- After a stop, with no result left unconsumed: no step can change `SAMPLE` (R194). -/
structure Stopped (s : State) : Prop where
  noStart : s.sc = false
  noResult : s.adcifg = false
  noWait : s.wait = false

end Sys2Proof.Safety
end

