-- ==== Sys2Proof/Certificates/Slice0/Obligations.lean ====
section
/-!
DEFINITION. The statements for the provers. Each names the rule of spec/ it formalises; results are written as whole
next states, so that each is also the completion and the frame of its instruction: every register, flag and list not
named keeps its value.
-/

open Sys2Proof Sys2Proof.Machine Sys2Proof.Safety

/-! ## Encoding -/

/-- spec/30_encoding.md, formats CMD, ADDR and STATE: decoding an encoded well-formed instruction gives it back with the
bytes that follow it, every operand at every value. -/
def Obligations.DecodeOfEncodeIsTheInstruction : Prop :=
  ∀ (i : Instr) (rest : List Byte), i.wellFormed = true → decode i.format (encode i ++ rest) = .ok (i, rest)

/-- spec/30_encoding.md: what the decoder answers is well formed, of the format asked for, and encodes to the bytes it
was read from. -/
def Obligations.EncodeOfDecodeIsTheBytes : Prop :=
  ∀ (f : Format) (bytes rest : List Byte) (i : Instr), decode f bytes = .ok (i, rest) →
    i.wellFormed = true ∧ i.format = f ∧ encode i ++ rest = bytes

/-- R97: one row per command over `cmd16`, and the three rows of the address byte, tried in the table's order. -/
def Obligations.DecoderFollowsTheOpcodeMap : Prop :=
  (∀ (w : BitVec 16), decode .cmd [w.extractLsb' 8 8, w.extractLsb' 0 8] = .ok
    (if w &&& 0xFF00 = 0xA000 then .wrccl (w.extractLsb' 0 8)
     else if w &&& 0xFF00 = 0xA100 then .wrcch (w.extractLsb' 0 8)
     else if w &&& 0xFF00 = 0xB000 then .wrinctl (w.extractLsb' 0 8)
     else if w &&& 0xFF01 = 0xFF01 then .convstart (w.extractLsb' 1 7)
     else if w &&& 0xFF01 = 0xFF00 then .convstop (w.extractLsb' 1 7)
     else .ignored (w.extractLsb' 8 8) (w.extractLsb' 0 8), [])) ∧
  (∀ (b : Byte), decode .addr [b] = .ok
    (if b &&& 0xFF = 0x16 then .addrw
     else if b &&& 0xFF = 0x17 then .addrr
     else .addrmiss (b.extractLsb' 1 7) (b.getLsbD 0), []))

/-- R102: the nine ids of `state` name the nine service steps; "Odd values and values above 16 are not states". -/
def Obligations.StateIdsAreTheNine : Prop :=
  decode .state [0] = .ok (.idle, []) ∧ decode .state [2] = .ok (.addrCount, []) ∧
  decode .state [4] = .ok (.addrMatch, []) ∧ decode .state [6] = .ok (.rxByte, []) ∧
  decode .state [8] = .ok (.rxEval, []) ∧ decode .state [10] = .ok (.txByte, []) ∧
  decode .state [12] = .ok (.ackWait, []) ∧ decode .state [14] = .ok (.ackEval, []) ∧
  decode .state [16] = .ok (.abort, []) ∧
  ∀ (b : Byte), b.toNat % 2 = 1 ∨ 16 < b.toNat → decode .state [b] = .error (.notAState b)

/-- A few words written out from the encodings of R91, R93, R97 and R102. -/
def Obligations.SampleWordsDecode : Prop :=
  decodeTableWord 16 0xA010 = some (.wrccl 0x10) ∧ decodeTableWord 16 0xA104 = some (.wrcch 0x04) ∧
  decodeTableWord 16 0xB009 = some (.wrinctl 0x09) ∧ decodeTableWord 16 0xFF03 = some (.convstart 1) ∧
  decodeTableWord 16 0xFFFE = some (.convstop 127) ∧ decodeTableWord 16 0xA255 = some (.ignored 0xA2 0x55) ∧
  decodeTableWord 8 0x16 = some .addrw ∧ decodeTableWord 8 0x17 = some .addrr ∧
  decodeTableWord 8 0x96 = some (.addrmiss 0x4B false) ∧ decodeTableWord 8 0x0C = some .ackWait

/-! ## Reset and bring-up -/

/-- R52: the column "after hardware reset" ("which is the spec's own choice because the source describes no reset") is
`State.reset`, and the column "launch state" is the state after its first step, for every value of the launch
parameters. `SAMPLE`, unspecified in both, is not named. The first column is the spec's own choice (D17); that the launch
state is reached by the first step is the model's (log 4). -/
def Obligations.ResetAndLaunchColumns : Prop :=
  (let r := State.reset
   r.state = .idle ∧ r.direction = .write ∧ r.rxCount = 0 ∧ r.txCount = 0 ∧ r.cmd0 = 0 ∧ r.cmd1 = 0 ∧ r.sr = 0 ∧
   r.cnt = 0 ∧ r.oe = false ∧ r.sttifg = false ∧ r.cntifg = false ∧ r.tie = false ∧ r.ccl = 0 ∧ r.cch = 0 ∧
   r.inctl = 0 ∧ r.ie = false ∧ r.sc = false ∧ r.adcifg = false ∧ r.adcres = 0 ∧ r.txsel = .selSample ∧ r.ae = 0 ∧
   r.wait = false) ∧
  ∃ l, step State.reset = .next l ∧
   l.state = .idle ∧ l.direction = .write ∧ l.rxCount = 0 ∧ l.txCount = 0 ∧ l.cmd0 = 0 ∧ l.cmd1 = 0 ∧ l.sr = 0 ∧
   l.cnt = 0 ∧ l.oe = false ∧ l.sttifg = false ∧ l.cntifg = false ∧ l.tie = true ∧ l.ccl = Config.ccl0 ∧
   l.cch = Config.cch0 ∧ l.inctl = Config.inctl0 ∧ l.ie = Config.ie0 ∧ l.sc = false ∧ l.adcifg = false ∧ l.adcres = 0 ∧
   l.txsel = .selSample ∧ l.ae = Config.ae0 ∧ l.wait = false

/-- The bring-up of spec/70_reset_and_hazards.md section 2 is the first step of a machine that has not had it, whatever
its state and its schedule. That it is a step of the model, and that `SAMPLE0` is drawn in it, are the model's own
choices (logs 2 and 4). -/
def Obligations.BringUpComesFirst : Prop :=
  ∀ (s : State), s.broughtUp = false → step s = .next { s with
    tie := true, cch := Config.cch0, ccl := Config.ccl0, inctl := Config.inctl0, ae := Config.ae0, ie := Config.ie0,
    sample := Config.sample0, broughtUp := true }

/-! ## The shift engine -/

/-- R121 and R122: a pulse returns the wired-AND level and, if bits are armed, shifts it in at bit 0, counts down, and
raises `CNTIFG` exactly at the last; with nothing armed only the level is returned. -/
def Obligations.ClockPulseShiftsTheLineIn : Prop :=
  ∀ (m : Level) (s : State), ∃ t, takeEvent (.clock m) s = .next t ∧
    ∃ l, t = { s with sr := t.sr, cnt := t.cnt, cntifg := t.cntifg, levels := l :: s.levels } ∧
      (l = false ↔ m = false ∨ (s.oe = true ∧ s.sr.getLsbD 7 = false)) ∧
      (s.cnt = 0 → t.sr = s.sr ∧ t.cnt = 0 ∧ t.cntifg = s.cntifg) ∧
      (0 < s.cnt → t.sr.getLsbD 0 = l ∧ (∀ k, k < 7 → t.sr.getLsbD (k + 1) = s.sr.getLsbD k) ∧
        t.cnt + 1 = s.cnt ∧ (t.cntifg = true ↔ s.cntifg = true ∨ t.cnt = 0))

/-- spec/40_shift_engine.md, the byte-level law (derived there from R121 and R122): eight pulses receive a byte, send a
byte, or send it while the master pulls some bits low; one pulse sends or receives an acknowledgment. -/
def Obligations.EightPulsesMoveAByte : Prop :=
  ∀ (s : State) (b : Byte),
    (s.cnt = 8 → s.oe = false →
      clockAll (byteBits b) s =
        { s with sr := b, cnt := 0, cntifg := true, levels := (byteBits b).reverse ++ s.levels }) ∧
    (s.cnt = 8 → s.oe = true →
      clockAll (byteBits b) s =
        { s with sr := s.sr &&& b, cnt := 0, cntifg := true, levels := (byteBits (s.sr &&& b)).reverse ++ s.levels }) ∧
    (s.cnt = 1 → s.oe = true → s.sr = 0x00 → (clockAll [true] s).levels = false :: s.levels) ∧
    (s.cnt = 1 → s.oe = true → s.sr = 0xFF → (clockAll [true] s).levels = true :: s.levels) ∧
    (∀ a : Level, s.cnt = 1 → s.oe = false → (clockAll [a] s).sr.getLsbD 0 = a)

/-- R124 and R125: `Start` sets the start flag and nothing else; `Stop` changes nothing. -/
def Obligations.StartSetsTheFlagAndStopNothing : Prop :=
  ∀ (s : State), takeEvent .start s = .next { s with sttifg := true } ∧ takeEvent .stop s = .next s

/-! ## The transport state machine -/

/-- Fetch and dispatch (spec/41_transport_fsm.md, dispatch; R140, R143, R146): when a transport service is due, the step
is `exec` of the instruction the id in `state` decodes to, between the entry and the return of the service; `AddrMatch`
is `exec` of what the byte in `SR` decodes to; the last half of `RxEval` follows `exec` of what the two bytes of the
command decode to. -/
def Obligations.StepRunsTheDecodedInstruction : Prop :=
  (∀ (s : State) (i : Instr), s.broughtUp = true → transportEnabled s = true →
    decode .state [stateCode (enterService s).state] = .ok (i, []) →
    ∃ u, exec i (enterService s) = .next u ∧ step s = .next (endService u)) ∧
  (∀ (s : State) (i : Instr), decode .addr [s.sr] = .ok (i, []) → exec .addrMatch s = exec i s) ∧
  (∀ (s : State) (i : Instr), s.rxCount = 1 → s.wait = false → decode .cmd [s.cmd0, s.sr] = .ok (i, []) →
    ∃ u, exec i { s with cmd1 := s.sr, rxCount := 2 } = .next u ∧ exec .rxEval s = .next (afterApply u))

/-- R141 and R142 (and the priority of 60_exceptions.md, R219): a pending start wins over every state and over a pending
count event; the service resets the context, arms eight address bits with the line released, clears both flags and
leaves `state = 4`. -/
def Obligations.StartForcesTheAddressPhase : Prop :=
  ∀ (s : State), s.broughtUp = true → s.tie = true → s.wait = false → s.sttifg = true →
    step s = .next { s with
      direction := .write, rxCount := 0, txCount := 0, oe := false, cnt := 8, sttifg := false, cntifg := false,
      state := .addrMatch }

/-- R142, R144, R145, R149 and R154: the five service steps without a condition, each as the instruction alone and as
the whole service of its state, which also clears `CNTIFG`. -/
def Obligations.UnconditionalServiceSteps : Prop :=
  ∀ (s : State),
    exec .idle s = .next { s with state := .idle } ∧
    exec .addrCount s = .next { s with oe := false, cnt := 8, sttifg := false, state := .addrMatch } ∧
    exec .rxByte s = .next { s with oe := false, cnt := 8, state := .rxEval } ∧
    exec .ackWait s = .next { s with oe := false, cnt := 1, state := .ackEval } ∧
    exec .abort s = .next { s with oe := false, direction := .write, rxCount := 0, txCount := 0, state := .idle } ∧
    (Serving s →
      (s.state = .idle → step s = .next { s with cntifg := false }) ∧
      (s.state = .addrCount → step s = .next
        { s with oe := false, cnt := 8, sttifg := false, state := .addrMatch, cntifg := false }) ∧
      (s.state = .rxByte → step s = .next { s with oe := false, cnt := 8, state := .rxEval, cntifg := false }) ∧
      (s.state = .ackWait → step s = .next { s with oe := false, cnt := 1, state := .ackEval, cntifg := false }) ∧
      (s.state = .abort → step s = .next
        { s with oe := false, direction := .write, rxCount := 0, txCount := 0, state := .idle, cntifg := false }))

/-- R143: `AddrMatch` acknowledges 0x16 and 0x17, sets `direction` and goes to the receive or the transmit path; it
declines every other byte, keeps `direction`, and goes to `Abort`; either way one acknowledgment bit is armed out. -/
def Obligations.AddressByteIsMatched : Prop :=
  ∀ (s : State),
    (s.sr = 0x16 → exec .addrMatch s =
      .next { s with sr := 0x00, direction := .write, state := .rxByte, oe := true, cnt := 1 }) ∧
    (s.sr = 0x17 → exec .addrMatch s =
      .next { s with sr := 0x00, direction := .read, state := .txByte, oe := true, cnt := 1 }) ∧
    (s.sr ≠ 0x16 → s.sr ≠ 0x17 → exec .addrMatch s =
      .next { s with sr := 0xFF, state := .abort, oe := true, cnt := 1 })

/-- The three rows of format ADDR, each as an instruction (spec/41_transport_fsm.md section 2, the two branches of
`AddrMatch`): `ADDRMISS` is the same whatever the other device's address and the direction are. -/
def Obligations.AddressClassesComplete : Prop :=
  ∀ (s : State) (addr7 : BitVec 7) (rw : Level),
    exec .addrw s = .next { s with sr := 0x00, direction := .write, state := .rxByte, oe := true, cnt := 1 } ∧
    exec .addrr s = .next { s with sr := 0x00, direction := .read, state := .txByte, oe := true, cnt := 1 } ∧
    exec (.addrmiss addr7 rw) s = .next { s with sr := 0xFF, state := .abort, oe := true, cnt := 1 }

/-- spec/41_transport_fsm.md section 3, both halves of `RxEval`: the first payload byte is stored and acknowledged; the
second is stored, the command it completes is executed, and then, unless that began a single-shot wait (which suspends
the step there), the buffer is cleared and the transaction ends with the line released and the no-acknowledgment loaded.
The clause for `rxCount = 2`, which no run reaches, is the model's: the step stores nothing and applies the buffer as it
stands (log 20, DEDUCED from decision D21 and the guards of the pseudocode; the prose there names `apply(0x00, 0x00)`, the
case of the cleared buffer). -/
def Obligations.ReceivedByteIsStoredAndExecuted : Prop :=
  ∀ (s : State),
    (s.rxCount = 0 → exec .rxEval s = .next
      { s with cmd0 := s.sr, rxCount := 1, sr := 0x00, oe := true, cnt := 1, state := .rxByte }) ∧
    (∀ i stored, s.wait = false →
      ((s.rxCount = 1 ∧ stored = { s with cmd1 := s.sr, rxCount := 2 }) ∨ (s.rxCount = 2 ∧ stored = s)) →
      decode .cmd [stored.cmd0, stored.cmd1] = .ok (i, []) →
      ∃ u, exec i stored = .next u ∧ exec .rxEval s = .next
        (if u.wait = true then u
         else { u with
          cmd0 := 0x00, cmd1 := 0x00, sr := 0xFF, oe := false, direction := .write, rxCount := 0, txCount := 0,
          state := .idle }))

/-- R148, R151 and R152, with the bytes of R62: the first two loads of a read take the low and the high byte of `SAMPLE`
as it is at that moment, later ones the filler without counting; eight bits are armed out and `state` becomes 12. A
master's NACK ends the read instead. -/
def Obligations.TransmitPathSendsTheSample : Prop :=
  ∀ (s : State),
    let loaded := { s with
      sr := if s.txCount = 0 then BitVec.ofNat 8 s.sample.toNat
        else if s.txCount = 1 then BitVec.ofNat 8 (s.sample.toNat / 256) else 0xFF
      txCount := if s.txCount < 2 then s.txCount + 1 else s.txCount
      oe := true
      cnt := 8
      state := .ackWait }
    exec .txByte s = .next loaded ∧
    (s.sr.getLsbD 0 = false → exec .ackEval s = .next loaded) ∧
    (s.sr.getLsbD 0 = true → exec .ackEval s =
      .next { s with oe := false, direction := .write, rxCount := 0, txCount := 0, state := .idle })

/-- The successor table of spec/41_transport_fsm.md section 6 (derived there from the step rules): what `state` can be
after a transport service that does not end in a wait, by what it was and what decides. -/
def Obligations.SuccessorTable : Prop :=
  ∀ (s t : State), FreeInv s → transportEnabled s = true → transportService s = .next t → t.wait = false →
    (s.sttifg = true → t.state = .addrMatch) ∧
    (s.sttifg = false →
      (s.state = .idle → t.state = .idle) ∧
      (s.state = .addrMatch → t.state = if s.sr = 0x16 then .rxByte else if s.sr = 0x17 then .txByte else .abort) ∧
      (s.state = .rxByte → t.state = .rxEval) ∧
      (s.state = .rxEval → t.state = if s.rxCount = 0 then .rxByte else .idle) ∧
      (s.state = .txByte → t.state = .ackWait) ∧
      (s.state = .ackWait → t.state = .ackEval) ∧
      (s.state = .ackEval → t.state = if s.sr.getLsbD 0 = false then .ackWait else .idle) ∧
      (s.state = .abort → t.state = .idle))

/-! ## The register protocol layer -/

/-- R171: `WRCCL` copies the bits of the value under `M_DF` into `CCL` and changes nothing else; no other bit of `CCL`,
no routing, no `IE`. With equal bits nothing changes at all. -/
def Obligations.FormatWriteChangesTheFormatBitOnly : Prop :=
  ∀ (s : State) (v : Byte), ∃ t, exec (.wrccl v) s = .next t ∧ t = { s with ccl := t.ccl } ∧
    (∀ k, k < 8 → t.ccl.getLsbD k = if s.params.mDF.getLsbD k then v.getLsbD k else s.ccl.getLsbD k) ∧
    (v &&& s.params.mDF = s.ccl &&& s.params.mDF → t = s)

/-- R172: `WRCCH` with the same five bits changes nothing; otherwise the bits of the value under `M_CFG` go into `CCH`,
`IE` becomes 1 exactly if the new `CCH` is continuous, the routing is re-derived from the new `CCH`, and nothing else
changes. -/
def Obligations.ModeWriteRederivesEnableAndRouting : Prop :=
  ∀ (s : State) (v : Byte), ∃ t, exec (.wrcch v) s = .next t ∧
    (v &&& s.params.mCfg = s.cch &&& s.params.mCfg → t = s) ∧
    (v &&& s.params.mCfg ≠ s.cch &&& s.params.mCfg →
      t = { s with cch := t.cch, ie := t.ie, ae := routing s.params t.cch s.inctl } ∧
      (∀ k, k < 8 → t.cch.getLsbD k = if s.params.mCfg.getLsbD k then v.getLsbD k else s.cch.getLsbD k) ∧
      (t.ie = true ↔ ContinuousMode s.params t.cch))

/-- R173: `WRINCTL` with the stored value changes nothing; otherwise it replaces all eight bits of `INCTL`, the routing is
re-derived, and nothing else changes; `IE` is never touched. -/
def Obligations.ChannelWriteReplacesAndReroutes : Prop :=
  ∀ (s : State) (v : Byte), ∃ t, exec (.wrinctl v) s = .next t ∧
    (v = s.inctl → t = s) ∧ (v ≠ s.inctl → t = { s with inctl := v, ae := routing s.params s.cch v })

/-- R176: for parameters as R7 constrains them, re-routing connects the single pin of a supported channel in unipolar
mode and its pair of pins in bipolar mode, and clears all routing for an unsupported channel; it writes all of `AE` and
nothing else. -/
def Obligations.RoutingFollowsChannelAndPolarity : Prop :=
  ∀ (s : State), s.params.wellFormed = true →
    (∀ e ∈ s.params.chTable, e.code = s.inctl &&& s.params.mInch →
      reroute s = { s with ae := if s.cch &&& s.params.mUni ≠ 0 then e.pinP else e.pinP ||| e.pinN }) ∧
    ((∀ e ∈ s.params.chTable, e.code ≠ s.inctl &&& s.params.mInch) → reroute s = { s with ae := 0x00 })

/-- spec/42_register_protocol.md section 5 (a) (derived there): a configuration write executed twice in a row leaves what
it left the first time. -/
def Obligations.ConfigurationWritesAreIdempotent : Prop :=
  ∀ (s : State) (v : Byte) (i : Instr), i = .wrccl v ∨ i = .wrcch v ∨ i = .wrinctl v →
    ∃ t, exec i s = .next t ∧ exec i t = .next t

/-- R191 and R192, and the beginning of the wait of R193: `CONVSTART` sets the start bit and, in single-shot mode by what
`CCH` holds, begins the wait; in continuous mode it returns at once; the ignored value bits do not matter. -/
def Obligations.StartConversionByMode : Prop :=
  ∀ (s : State) (ign : BitVec 7),
    (ContinuousMode s.params s.cch → exec (.convstart ign) s = .next { s with sc := true, txsel := .selSample }) ∧
    (¬ ContinuousMode s.params s.cch → exec (.convstart ign) s = .next { s with sc := true, wait := true })

/-- R194 and R175: `CONVSTOP` clears the start bit and writes nothing else; an ignored opcode changes nothing; the value
bits neither reads do not matter. -/
def Obligations.StopConversionAndIgnoredOpcodes : Prop :=
  ∀ (s : State) (ign : BitVec 7) (op v : Byte),
    exec (.convstop ign) s = .next { s with sc := false } ∧ exec (.ignored op v) s = .next s

/-- The frame of the six commands (R20, columns "written by"): only the configuration registers, `IE`, `AE`, `SC`, `TXSEL`
and `WAIT` can change; the whole transport, the converter's result, the sample and the flags keep their values. -/
def Obligations.CommandsLeaveTheTransportAlone : Prop :=
  ∀ (i : Instr) (s : State), i.format = .cmd → ∃ t, exec i s = .next t ∧
    t = { s with ccl := t.ccl, cch := t.cch, inctl := t.inctl, ie := t.ie, ae := t.ae, sc := t.sc, txsel := t.txsel,
                 wait := t.wait } ∧
    (∀ off, readWindow off t = readWindow off s)

/-- The frame of the address classes and of the service steps but `RxEval` (R20, columns "written by"): only the context,
the state, the shift engine and the start flag can change, and the read window reads as before. -/
def Obligations.ServiceStepsLeaveTheConfigurationAlone : Prop :=
  ∀ (i : Instr) (s : State), i.format ≠ .cmd → i ≠ .rxEval → ∃ t, exec i s = .next t ∧
    t = { s with state := t.state, direction := t.direction, rxCount := t.rxCount, txCount := t.txCount, sr := t.sr,
                 cnt := t.cnt, oe := t.oe, sttifg := t.sttifg } ∧
    (i ≠ .addrCount → t.sttifg = s.sttifg) ∧
    (∀ off, readWindow off t = readWindow off s)

/-- The read window of R70 and R62: the low byte of the sample, the high byte, then the filler at every later offset. -/
def Obligations.ReadWindowIsTheSampleThenFiller : Prop :=
  ∀ (s : State) (off : Nat), readWindow 0 s = s.sample.extractLsb' 0 8 ∧ readWindow 1 s = s.sample.extractLsb' 8 8 ∧
    (2 ≤ off → readWindow off s = 0xFF) ∧ readWindow 1 s ++ readWindow 0 s = s.sample

/-! ## The ADC controller -/

/-- spec/43_adc_controller.md section 1, `AdcComplete(v)`: a completion is taken only while `SC = 1`: it latches the result
and the flag, and the start bit clears itself in single-shot mode. The clause for `SC = 0` is the model's: the event, which
is then not enabled, is refused by name and nothing is run (log 8, DEDUCED from U14 of spec/93_implementation_defined.md). -/
def Obligations.CompletionLatchesTheResult : Prop :=
  ∀ (s : State) (v : Half),
    (s.sc = true → ∃ t, takeEvent (.adcComplete v) s = .next t ∧
      t = { s with adcres := v, adcifg := true, sc := t.sc } ∧ (t.sc = true ↔ ContinuousMode s.params s.cch)) ∧
    (s.sc = false → takeEvent (.adcComplete v) s = .refused .completionNotEnabled)

/-- R196: with the wait in progress and a result flagged, the next step copies the result, ends the wait and performs the
rest of the suspended step; `SC`, the configuration and a latched start are not touched. -/
def Obligations.WaitDoneFinishesTheCommand : Prop :=
  ∀ (s : State), s.broughtUp = true → s.wait = true → s.adcifg = true →
    step s = .next { s with
      sample := s.adcres, txsel := .selSample, adcifg := false, wait := false, cmd0 := 0x00, cmd1 := 0x00, sr := 0xFF,
      oe := false, direction := .write, rxCount := 0, txCount := 0, state := .idle, cntifg := false }

/-- spec/43_adc_controller.md section 4, `AdcService`: the completion interrupt is enabled exactly by a flagged result,
`IE = 1` and no wait; it copies the result and clears its flag, whatever the mode, `SC` and the transport are doing, and
touches nothing else. The third clause is the model's: it is the next step of the machine unless a transport service is
due, by the order the model takes (log 9, DESIGN CHOICE). -/
def Obligations.CompletionInterruptCopiesTheResult : Prop :=
  ∀ (s : State),
    (adcEnabled s = true ↔ s.adcifg = true ∧ s.ie = true ∧ s.wait = false) ∧
    runInternal .adc s = .next { s with sample := s.adcres, adcifg := false } ∧
    (s.broughtUp = true → adcEnabled s = true → transportEnabled s = false →
      step s = .next { s with sample := s.adcres, adcifg := false })

/-- spec/43_adc_controller.md, the single-shot path, and spec/70_reset_and_hazards.md, the hang: nothing but a completion
ends a wait, and while it lasts no step serves the bus or the converter: a step either takes an event or idles. -/
def Obligations.OnlyACompletionEndsAWait : Prop :=
  ∀ (s t : State), s.broughtUp = true → s.wait = true → step s = .next t →
    (t.wait = false → s.adcifg = true ∧ t.sample = s.adcres) ∧
    (s.adcifg = false → t.wait = true ∧ t.state = s.state ∧ t.sample = s.sample ∧ t.cmd0 = s.cmd0 ∧ t.cmd1 = s.cmd1 ∧
      (s.events = [] → t = s))

/-- spec/43_adc_controller.md, the bus during a wait: the line carries what the master sends, nothing is shifted, and a
start is latched, not served. -/
def Obligations.WaitingCoreIsDeafToTheBus : Prop :=
  ∀ (s : State) (m : Level), FreeInv s → s.wait = true →
    takeEvent (.clock m) s = .next { s with levels := m :: s.levels } ∧
    ∃ t, takeEvent .start s = .next t ∧ t = { s with sttifg := true } ∧ transportEnabled t = false

/-! ## The step discipline and the two interrupt sources -/

/-- spec/00_scope.md, the step discipline: a step consumes an event of the schedule only when no internal step is
enabled, and then exactly the next one; an enabled internal step is the one of R14's order. -/
def Obligations.EventsWaitForQuiescence : Prop :=
  ∀ (s : State), s.broughtUp = true →
    (∀ k, enabledStep s = some k → step s = runInternal k s ∧ ∀ t, step s = .next t → t.events = s.events) ∧
    (Quiescent s → ∀ e es, s.events = e :: es → step s = takeEvent e { s with events := es }) ∧
    (Quiescent s → s.events = [] → step s = .next s)

/-- The loop of R14's `macro_step` ends: from every state, two internal steps at most lead to a state where none is
enabled. -/
def Obligations.TwoInternalStepsReachQuiescence : Prop :=
  ∀ (s : State), ∃ t, settle 2 s = .next t ∧ Quiescent t

/-- spec/60_exceptions.md, priority between the two sources (shown there not to matter): a transport step that neither
reads `SAMPLE` nor executes a command gives, with the completion interrupt, the same state in either order. Such steps
are the service of a start, every step but `RxEval`, `TxByte` and `AckEval`, an `RxEval` that executes no command, and an
`AckEval` that received a NACK. The two services are enabled together only under the weaker discipline of R252 (log 9;
`ServicesAreNeverDueTogether`). -/
def Obligations.ServicesCommute : Prop :=
  ∀ (s : State), transportEnabled s = true → adcEnabled s = true →
    (s.sttifg = true ∨
      ((s.state = .rxEval → s.rxCount ≠ 1 ∧ s.rxCount ≠ 2) ∧ s.state ≠ .txByte ∧
        (s.state = .ackEval → s.sr.getLsbD 0 = true))) →
    ∃ u, transportService s = .next u ∧ adcEnabled u = true ∧ transportEnabled (adcService s) = true ∧
      transportService (adcService s) = .next (adcService u)

/-- spec/60_exceptions.md section 3, read with the step discipline (an inference of the model, log 9): under prompt
service the two services are never due at the same time, at reset and after every step from a state in which they are
not, so the order the model takes between them is not observable in a run. -/
def Obligations.ServicesAreNeverDueTogether : Prop :=
  OneServiceDue State.reset ∧ ∀ (s t : State), OneServiceDue s → step s = .next t → OneServiceDue t

/-! ## Invariants and whole-machine rules -/

/-- The invariant of prompt service holds after hardware reset and, for every value of the launch parameters, in the
launch state (spec/10_state.md section 9). -/
def Obligations.InvariantHoldsAtResetAndLaunch : Prop :=
  PromptInv State.reset ∧ ∀ l : Launch, PromptInv (bringUpWith l State.reset)

/-- Every step keeps the invariant of prompt service, from every state that meets it (spec/10_state.md section 9). -/
def Obligations.EveryStepKeepsTheInvariant : Prop :=
  ∀ (s t : State), PromptInv s → step s = .next t → PromptInv t

/-- The invariant implies the invariants (a) to (g) of spec/10_state.md section 9 as the spec lists them. -/
def Obligations.InvariantGivesTheSpecsList : Prop :=
  ∀ (s : State), PromptInv s → SpecInvariants s

/-- The invariants (a), (b), (c), (f), (g) of spec/10_state.md section 9 do not depend on prompt service: every move of
the weaker discipline keeps them. -/
def Obligations.FreeInvariantSurvivesDelayedServices : Prop :=
  ∀ (s t : State), FreeInv s → FreeStep s t → FreeInv t

/-- Prompt service is a special case of the weaker discipline (spec/70_reset_and_hazards.md, service latency): a step is
the bring-up, nothing, or a move of the weaker discipline on the state with the event taken off its schedule. -/
def Obligations.StepIsAMoveOfTheWeakerDiscipline : Prop :=
  ∀ (s t : State), step s = .next t →
    (s.broughtUp = false ∧ t = bringUp s) ∨ t = s ∨ FreeStep s t ∨
    ∃ e es, s.events = e :: es ∧ FreeStep { s with events := es } t

/-- R21, R22 and R42 over every step after the bring-up: the bits of `CCL` outside `M_DF` and of `CCH` outside `M_CFG`
hold their value for ever, `TIE` is not written, and the parameters are constants. -/
def Obligations.UnnamedBitsNeverChange : Prop :=
  ∀ (s t : State), s.broughtUp = true → step s = .next t →
    t.ccl &&& ~~~s.params.mDF = s.ccl &&& ~~~s.params.mDF ∧ t.cch &&& ~~~s.params.mCfg = s.cch &&& ~~~s.params.mCfg ∧
    t.tie = s.tie ∧ t.params = s.params ∧ t.broughtUp = true

/-- spec/10_state.md, the Sample Register and the completion flag: after the bring-up `SAMPLE` changes only in a step that
consumes a flagged result, by `WaitDone` or by the completion interrupt, and then holds that result; the flag is cleared
by no other step. -/
def Obligations.SampleIsWrittenOnlyByTheCopies : Prop :=
  ∀ (s t : State), s.broughtUp = true → step s = .next t →
    (t.sample ≠ s.sample → s.adcifg = true ∧ t.adcifg = false ∧ t.sample = s.adcres) ∧
    (s.adcifg = true → t.adcifg = false → t.sample = s.adcres ∧ (s.wait = true ∨ s.ie = true))

/-- spec/10_state.md, access rights and writers: after the bring-up a configuration register, `IE` or the routing changes
only in the service of the second byte of a write transaction, by the opcode that names the register. -/
def Obligations.ConfigurationIsWrittenOnlyByCommands : Prop :=
  ∀ (s t : State), FreeInv s → s.broughtUp = true → step s = .next t →
    (t.ccl ≠ s.ccl ∨ t.cch ≠ s.cch ∨ t.inctl ≠ s.inctl ∨ t.ie ≠ s.ie ∨ t.ae ≠ s.ae →
      Serving s ∧ s.state = .rxEval ∧ s.rxCount = 1) ∧
    (t.ccl ≠ s.ccl → s.cmd0 = 0xA0) ∧ (t.cch ≠ s.cch → s.cmd0 = 0xA1) ∧ (t.ie ≠ s.ie → s.cmd0 = 0xA1) ∧
    (t.inctl ≠ s.inctl → s.cmd0 = 0xB0) ∧ (t.ae ≠ s.ae → s.cmd0 = 0xA1 ∨ s.cmd0 = 0xB0)

/-- R35: `STTIFG` is set by `Start` and cleared by the `AddrCount` step and by nothing else; it stays pending for as long
as the wait blocks the service. -/
def Obligations.StartFlagIsClearedOnlyByAddrCount : Prop :=
  ∀ (s t : State), step s = .next t →
    (s.sttifg = false → t.sttifg = true → ∃ es, s.events = .start :: es) ∧
    (s.sttifg = true → t.sttifg = false → s.wait = false ∧ s.tie = true ∧ t.state = .addrMatch ∧ t.cnt = 8)

/-- spec/43_adc_controller.md, stopConversion, and spec/95_test_vectors.md section 4, property 6: with the start bit clear,
no result flagged and no wait, no step changes `SAMPLE`, and the condition lasts until a `CONVSTART` is executed. -/
def Obligations.StoppedConverterNeverUpdatesTheSample : Prop :=
  ∀ (s t : State), FreeInv s → s.broughtUp = true → Stopped s → step s = .next t →
    t.sample = s.sample ∧
    (Stopped t ∨ (s.state = .rxEval ∧ s.rxCount = 1 ∧ s.cmd0 = 0xFF ∧ s.sr.getLsbD 0 = true ∧ t.sc = true))

/-! ## Transactions -/

/-- spec/30_encoding.md, write transactions and acknowledgment slots, and spec/95_test_vectors.md section 4, property 5:
from every state in which a transaction may begin, a write transaction returns the bits the master sends with the
acknowledgments 0, 0, 1, and leaves the exported registers and `IE` as its command leaves them. -/
def Obligations.WriteTransactionExecutesItsCommand : Prop :=
  ∀ (s : State) (op v : Byte) (i : Instr), Ready s → decode .cmd [op, v] = .ok (i, []) →
    ∃ u t, exec i s = .next u ∧ macroRun (writeTransaction op v) s = .next t ∧
      t.levels = (byteBits 0x16 ++ [false] ++ byteBits op ++ [false] ++ byteBits v ++ [true]).reverse ++ s.levels ∧
      exported t = exported u ∧ t.ie = u.ie ∧ Quiescent t ∧ (t.wait = false → t.state = .idle)

/-- spec/95_test_vectors.md section 4, property 3: an address byte of another device, whatever its direction bit, reads
NACK and leaves the core idle with nothing but the transport registers changed. -/
def Obligations.ForeignAddressIsDeclined : Prop :=
  ∀ (s : State) (b : Byte), Ready s → b ≠ 0x16 → b ≠ 0x17 →
    macroRun (.start :: writeSlot b) s = .next { s with
      state := .idle, direction := .write, rxCount := 0, txCount := 0, sr := 0xFF, cnt := 0, oe := false,
      sttifg := false, cntifg := false, levels := (byteBits b ++ [true]).reverse ++ s.levels }

/-- spec/30_encoding.md, read transactions, and spec/95_test_vectors.md section 4, property 4: a read of any length, with
no completion in it, is acknowledged and returns the read window byte by byte, each bit 7 first; the core is idle
afterwards, and nothing but the transport registers has changed. -/
def Obligations.ReadTransactionReturnsTheReadWindow : Prop :=
  ∀ (s : State) (n : Nat), Ready s → ∃ t, macroRun (readTransaction n) s = .next t ∧
    t.levels = (byteBits 0x17 ++ [false] ++ readLevels s 0 n).reverse ++ s.levels ∧
    t = { s with state := .idle, direction := .write, rxCount := 0, txCount := 0, sr := t.sr, cnt := 0, oe := false,
                 sttifg := false, cntifg := false, levels := t.levels }

/-- spec/20_memory.md, the one race (and spec/95_test_vectors.md section 1.5, second row): in continuous mode a completion
between the two loads of a read makes the first byte that of the old sample and the second that of the new one, at
each of the nine places it can fall: after `k` of the eight data pulses of the first byte, for every `k` from 0 to 8. -/
def Obligations.TornReadMixesTwoSamples : Prop :=
  ∀ (s : State) (v : Half) (k : Nat), k ≤ 8 → Ready s → s.sc = true → s.ie = true → ContinuousMode s.params s.cch →
    ∃ t, macroRun (.start :: (writeSlot 0x17 ++ List.replicate k (.clock true) ++ [.adcComplete v] ++
        List.replicate (8 - k) (.clock true) ++ [.clock false] ++ readSlot true)) s = .next t ∧
      t.levels = (byteBits 0x17 ++ [false] ++ byteBits (s.sample.extractLsb' 0 8) ++ [false] ++
        byteBits (v.extractLsb' 8 8) ++ [true]).reverse ++ s.levels ∧
      t.sample = v ∧ t.state = .idle
end

