-- ==== Sys2Proof/Laws/Decode.lean ====
section
/-!
SUPPORT. The fields of an address byte and of a conversion value, and what the decoder answers for a byte that is made
of them.
-/

namespace Sys2Proof

theorem joinBit_getLsbD (a : BitVec 7) (b : Level) (k : Nat) (hk : k < 8) :
    (joinBit a b).getLsbD k = if k = 0 then b else a.getLsbD (k - 1) := by
  unfold joinBit
  rcases Nat.eq_zero_or_pos k with rfl | hpos
  · cases b <;> simp
  · have hk0 : k ≠ 0 := by omega
    cases b <;> simp [hk, hk0]

@[simp] theorem highSeven_joinBit (a : BitVec 7) (b : Level) : highSeven (joinBit a b) = a := by
  apply BitVec.eq_of_getLsbD_eq
  intro k hk
  have h1 : 1 + k < 8 := by omega
  have h2 : 1 + k - 1 = k := by omega
  simp [highSeven, hk, joinBit_getLsbD a b (1 + k) h1, h2]

@[simp] theorem bitZero_joinBit (a : BitVec 7) (b : Level) : bitZero (joinBit a b) = b :=
  (joinBit_getLsbD a b 0 (by decide)).trans (if_pos rfl)

@[simp] theorem joinBit_fields (b : Byte) : joinBit (highSeven b) (bitZero b) = b := by
  apply BitVec.eq_of_getLsbD_eq
  intro k hk
  rw [joinBit_getLsbD _ _ k hk]
  split
  · next h => simp [bitZero, h]
  · next h =>
    have h1 : k - 1 < 7 := by omega
    have h2 : 1 + (k - 1) = k := by omega
    simp [highSeven, h1, h2]

theorem joinBit_injective {a a' : BitVec 7} {b b' : Level} (h : joinBit a b = joinBit a' b') : a = a' ∧ b = b' :=
  ⟨by simpa using congrArg highSeven h, by simpa using congrArg bitZero h⟩

/-- The decoder reads a byte made of an address and a direction as the class of that address (R143). -/
theorem decodeAddress_addressByte (a : BitVec 7) (rw : Level) :
    decodeAddress (addressByte a rw) =
      if a = slaveAddr then (if rw then .addrr else .addrw) else .addrmiss a rw := by
  unfold decodeAddress addressByte
  by_cases h : a = slaveAddr
  · subst h
    cases rw <;> simp [slaveAddr, joinBit]
  · have hw : joinBit a rw ≠ joinBit slaveAddr false := fun e => h (joinBit_injective e).1
    have hr : joinBit a rw ≠ joinBit slaveAddr true := fun e => h (joinBit_injective e).1
    simp [h, hw, hr]

/-- The two bytes that carry the core's own address (R61). -/
theorem addressByte_own_write : addressByte slaveAddr false = 0x16 := by decide

theorem addressByte_own_read : addressByte slaveAddr true = 0x17 := by decide

/-- A byte names the core exactly when it is one of those two (R143). -/
theorem own_address_iff (b : Byte) : b = addressByte slaveAddr (bitZero b) ↔ b = 0x16 ∨ b = 0x17 := by
  constructor
  · intro h
    cases hb : bitZero b
    · exact .inl (by rw [h, hb, addressByte_own_write])
    · exact .inr (by rw [h, hb, addressByte_own_read])
  · rintro (rfl | rfl) <;> decide

end Sys2Proof
end

