-- ==== Sys2Proof/Laws/State.lean ====
section
/-!
SUPPORT. The fields of the shared state updates: one lemma per field per update, so that no proof unfolds a record
update.
-/

namespace Sys2Proof.Machine

/-! `armIn` -/

@[simp] theorem armIn_state (n : Nat) (s : State) : (armIn n s).state = s.state := rfl
@[simp] theorem armIn_direction (n : Nat) (s : State) : (armIn n s).direction = s.direction := rfl
@[simp] theorem armIn_rxCount (n : Nat) (s : State) : (armIn n s).rxCount = s.rxCount := rfl
@[simp] theorem armIn_txCount (n : Nat) (s : State) : (armIn n s).txCount = s.txCount := rfl
@[simp] theorem armIn_cmd0 (n : Nat) (s : State) : (armIn n s).cmd0 = s.cmd0 := rfl
@[simp] theorem armIn_cmd1 (n : Nat) (s : State) : (armIn n s).cmd1 = s.cmd1 := rfl
@[simp] theorem armIn_sr (n : Nat) (s : State) : (armIn n s).sr = s.sr := rfl
@[simp] theorem armIn_cnt (n : Nat) (s : State) : (armIn n s).cnt = n := rfl
@[simp] theorem armIn_oe (n : Nat) (s : State) : (armIn n s).oe = false := rfl
@[simp] theorem armIn_sttifg (n : Nat) (s : State) : (armIn n s).sttifg = s.sttifg := rfl
@[simp] theorem armIn_cntifg (n : Nat) (s : State) : (armIn n s).cntifg = s.cntifg := rfl
@[simp] theorem armIn_tie (n : Nat) (s : State) : (armIn n s).tie = s.tie := rfl
@[simp] theorem armIn_ccl (n : Nat) (s : State) : (armIn n s).ccl = s.ccl := rfl
@[simp] theorem armIn_cch (n : Nat) (s : State) : (armIn n s).cch = s.cch := rfl
@[simp] theorem armIn_inctl (n : Nat) (s : State) : (armIn n s).inctl = s.inctl := rfl
@[simp] theorem armIn_ie (n : Nat) (s : State) : (armIn n s).ie = s.ie := rfl
@[simp] theorem armIn_sc (n : Nat) (s : State) : (armIn n s).sc = s.sc := rfl
@[simp] theorem armIn_adcifg (n : Nat) (s : State) : (armIn n s).adcifg = s.adcifg := rfl
@[simp] theorem armIn_adcres (n : Nat) (s : State) : (armIn n s).adcres = s.adcres := rfl
@[simp] theorem armIn_sample (n : Nat) (s : State) : (armIn n s).sample = s.sample := rfl
@[simp] theorem armIn_txsel (n : Nat) (s : State) : (armIn n s).txsel = s.txsel := rfl
@[simp] theorem armIn_ae (n : Nat) (s : State) : (armIn n s).ae = s.ae := rfl
@[simp] theorem armIn_wait (n : Nat) (s : State) : (armIn n s).wait = s.wait := rfl
@[simp] theorem armIn_params (n : Nat) (s : State) : (armIn n s).params = s.params := rfl
@[simp] theorem armIn_broughtUp (n : Nat) (s : State) : (armIn n s).broughtUp = s.broughtUp := rfl
@[simp] theorem armIn_events (n : Nat) (s : State) : (armIn n s).events = s.events := rfl
@[simp] theorem armIn_levels (n : Nat) (s : State) : (armIn n s).levels = s.levels := rfl

/-! `armOut` -/

@[simp] theorem armOut_state (n : Nat) (s : State) : (armOut n s).state = s.state := rfl
@[simp] theorem armOut_direction (n : Nat) (s : State) : (armOut n s).direction = s.direction := rfl
@[simp] theorem armOut_rxCount (n : Nat) (s : State) : (armOut n s).rxCount = s.rxCount := rfl
@[simp] theorem armOut_txCount (n : Nat) (s : State) : (armOut n s).txCount = s.txCount := rfl
@[simp] theorem armOut_cmd0 (n : Nat) (s : State) : (armOut n s).cmd0 = s.cmd0 := rfl
@[simp] theorem armOut_cmd1 (n : Nat) (s : State) : (armOut n s).cmd1 = s.cmd1 := rfl
@[simp] theorem armOut_sr (n : Nat) (s : State) : (armOut n s).sr = s.sr := rfl
@[simp] theorem armOut_cnt (n : Nat) (s : State) : (armOut n s).cnt = n := rfl
@[simp] theorem armOut_oe (n : Nat) (s : State) : (armOut n s).oe = true := rfl
@[simp] theorem armOut_sttifg (n : Nat) (s : State) : (armOut n s).sttifg = s.sttifg := rfl
@[simp] theorem armOut_cntifg (n : Nat) (s : State) : (armOut n s).cntifg = s.cntifg := rfl
@[simp] theorem armOut_tie (n : Nat) (s : State) : (armOut n s).tie = s.tie := rfl
@[simp] theorem armOut_ccl (n : Nat) (s : State) : (armOut n s).ccl = s.ccl := rfl
@[simp] theorem armOut_cch (n : Nat) (s : State) : (armOut n s).cch = s.cch := rfl
@[simp] theorem armOut_inctl (n : Nat) (s : State) : (armOut n s).inctl = s.inctl := rfl
@[simp] theorem armOut_ie (n : Nat) (s : State) : (armOut n s).ie = s.ie := rfl
@[simp] theorem armOut_sc (n : Nat) (s : State) : (armOut n s).sc = s.sc := rfl
@[simp] theorem armOut_adcifg (n : Nat) (s : State) : (armOut n s).adcifg = s.adcifg := rfl
@[simp] theorem armOut_adcres (n : Nat) (s : State) : (armOut n s).adcres = s.adcres := rfl
@[simp] theorem armOut_sample (n : Nat) (s : State) : (armOut n s).sample = s.sample := rfl
@[simp] theorem armOut_txsel (n : Nat) (s : State) : (armOut n s).txsel = s.txsel := rfl
@[simp] theorem armOut_ae (n : Nat) (s : State) : (armOut n s).ae = s.ae := rfl
@[simp] theorem armOut_wait (n : Nat) (s : State) : (armOut n s).wait = s.wait := rfl
@[simp] theorem armOut_params (n : Nat) (s : State) : (armOut n s).params = s.params := rfl
@[simp] theorem armOut_broughtUp (n : Nat) (s : State) : (armOut n s).broughtUp = s.broughtUp := rfl
@[simp] theorem armOut_events (n : Nat) (s : State) : (armOut n s).events = s.events := rfl
@[simp] theorem armOut_levels (n : Nat) (s : State) : (armOut n s).levels = s.levels := rfl

/-! `release` -/

@[simp] theorem release_state (s : State) : (release s).state = s.state := rfl
@[simp] theorem release_direction (s : State) : (release s).direction = s.direction := rfl
@[simp] theorem release_rxCount (s : State) : (release s).rxCount = s.rxCount := rfl
@[simp] theorem release_txCount (s : State) : (release s).txCount = s.txCount := rfl
@[simp] theorem release_cmd0 (s : State) : (release s).cmd0 = s.cmd0 := rfl
@[simp] theorem release_cmd1 (s : State) : (release s).cmd1 = s.cmd1 := rfl
@[simp] theorem release_sr (s : State) : (release s).sr = s.sr := rfl
@[simp] theorem release_cnt (s : State) : (release s).cnt = s.cnt := rfl
@[simp] theorem release_oe (s : State) : (release s).oe = false := rfl
@[simp] theorem release_sttifg (s : State) : (release s).sttifg = s.sttifg := rfl
@[simp] theorem release_cntifg (s : State) : (release s).cntifg = s.cntifg := rfl
@[simp] theorem release_tie (s : State) : (release s).tie = s.tie := rfl
@[simp] theorem release_ccl (s : State) : (release s).ccl = s.ccl := rfl
@[simp] theorem release_cch (s : State) : (release s).cch = s.cch := rfl
@[simp] theorem release_inctl (s : State) : (release s).inctl = s.inctl := rfl
@[simp] theorem release_ie (s : State) : (release s).ie = s.ie := rfl
@[simp] theorem release_sc (s : State) : (release s).sc = s.sc := rfl
@[simp] theorem release_adcifg (s : State) : (release s).adcifg = s.adcifg := rfl
@[simp] theorem release_adcres (s : State) : (release s).adcres = s.adcres := rfl
@[simp] theorem release_sample (s : State) : (release s).sample = s.sample := rfl
@[simp] theorem release_txsel (s : State) : (release s).txsel = s.txsel := rfl
@[simp] theorem release_ae (s : State) : (release s).ae = s.ae := rfl
@[simp] theorem release_wait (s : State) : (release s).wait = s.wait := rfl
@[simp] theorem release_params (s : State) : (release s).params = s.params := rfl
@[simp] theorem release_broughtUp (s : State) : (release s).broughtUp = s.broughtUp := rfl
@[simp] theorem release_events (s : State) : (release s).events = s.events := rfl
@[simp] theorem release_levels (s : State) : (release s).levels = s.levels := rfl

/-! `load` -/

@[simp] theorem load_state (v : Byte) (s : State) : (load v s).state = s.state := rfl
@[simp] theorem load_direction (v : Byte) (s : State) : (load v s).direction = s.direction := rfl
@[simp] theorem load_rxCount (v : Byte) (s : State) : (load v s).rxCount = s.rxCount := rfl
@[simp] theorem load_txCount (v : Byte) (s : State) : (load v s).txCount = s.txCount := rfl
@[simp] theorem load_cmd0 (v : Byte) (s : State) : (load v s).cmd0 = s.cmd0 := rfl
@[simp] theorem load_cmd1 (v : Byte) (s : State) : (load v s).cmd1 = s.cmd1 := rfl
@[simp] theorem load_sr (v : Byte) (s : State) : (load v s).sr = v := rfl
@[simp] theorem load_cnt (v : Byte) (s : State) : (load v s).cnt = s.cnt := rfl
@[simp] theorem load_oe (v : Byte) (s : State) : (load v s).oe = s.oe := rfl
@[simp] theorem load_sttifg (v : Byte) (s : State) : (load v s).sttifg = s.sttifg := rfl
@[simp] theorem load_cntifg (v : Byte) (s : State) : (load v s).cntifg = s.cntifg := rfl
@[simp] theorem load_tie (v : Byte) (s : State) : (load v s).tie = s.tie := rfl
@[simp] theorem load_ccl (v : Byte) (s : State) : (load v s).ccl = s.ccl := rfl
@[simp] theorem load_cch (v : Byte) (s : State) : (load v s).cch = s.cch := rfl
@[simp] theorem load_inctl (v : Byte) (s : State) : (load v s).inctl = s.inctl := rfl
@[simp] theorem load_ie (v : Byte) (s : State) : (load v s).ie = s.ie := rfl
@[simp] theorem load_sc (v : Byte) (s : State) : (load v s).sc = s.sc := rfl
@[simp] theorem load_adcifg (v : Byte) (s : State) : (load v s).adcifg = s.adcifg := rfl
@[simp] theorem load_adcres (v : Byte) (s : State) : (load v s).adcres = s.adcres := rfl
@[simp] theorem load_sample (v : Byte) (s : State) : (load v s).sample = s.sample := rfl
@[simp] theorem load_txsel (v : Byte) (s : State) : (load v s).txsel = s.txsel := rfl
@[simp] theorem load_ae (v : Byte) (s : State) : (load v s).ae = s.ae := rfl
@[simp] theorem load_wait (v : Byte) (s : State) : (load v s).wait = s.wait := rfl
@[simp] theorem load_params (v : Byte) (s : State) : (load v s).params = s.params := rfl
@[simp] theorem load_broughtUp (v : Byte) (s : State) : (load v s).broughtUp = s.broughtUp := rfl
@[simp] theorem load_events (v : Byte) (s : State) : (load v s).events = s.events := rfl
@[simp] theorem load_levels (v : Byte) (s : State) : (load v s).levels = s.levels := rfl

/-! `ctxReset` -/

@[simp] theorem ctxReset_state (s : State) : (ctxReset s).state = s.state := rfl
@[simp] theorem ctxReset_direction (s : State) : (ctxReset s).direction = .write := rfl
@[simp] theorem ctxReset_rxCount (s : State) : (ctxReset s).rxCount = 0 := rfl
@[simp] theorem ctxReset_txCount (s : State) : (ctxReset s).txCount = 0 := rfl
@[simp] theorem ctxReset_cmd0 (s : State) : (ctxReset s).cmd0 = s.cmd0 := rfl
@[simp] theorem ctxReset_cmd1 (s : State) : (ctxReset s).cmd1 = s.cmd1 := rfl
@[simp] theorem ctxReset_sr (s : State) : (ctxReset s).sr = s.sr := rfl
@[simp] theorem ctxReset_cnt (s : State) : (ctxReset s).cnt = s.cnt := rfl
@[simp] theorem ctxReset_oe (s : State) : (ctxReset s).oe = s.oe := rfl
@[simp] theorem ctxReset_sttifg (s : State) : (ctxReset s).sttifg = s.sttifg := rfl
@[simp] theorem ctxReset_cntifg (s : State) : (ctxReset s).cntifg = s.cntifg := rfl
@[simp] theorem ctxReset_tie (s : State) : (ctxReset s).tie = s.tie := rfl
@[simp] theorem ctxReset_ccl (s : State) : (ctxReset s).ccl = s.ccl := rfl
@[simp] theorem ctxReset_cch (s : State) : (ctxReset s).cch = s.cch := rfl
@[simp] theorem ctxReset_inctl (s : State) : (ctxReset s).inctl = s.inctl := rfl
@[simp] theorem ctxReset_ie (s : State) : (ctxReset s).ie = s.ie := rfl
@[simp] theorem ctxReset_sc (s : State) : (ctxReset s).sc = s.sc := rfl
@[simp] theorem ctxReset_adcifg (s : State) : (ctxReset s).adcifg = s.adcifg := rfl
@[simp] theorem ctxReset_adcres (s : State) : (ctxReset s).adcres = s.adcres := rfl
@[simp] theorem ctxReset_sample (s : State) : (ctxReset s).sample = s.sample := rfl
@[simp] theorem ctxReset_txsel (s : State) : (ctxReset s).txsel = s.txsel := rfl
@[simp] theorem ctxReset_ae (s : State) : (ctxReset s).ae = s.ae := rfl
@[simp] theorem ctxReset_wait (s : State) : (ctxReset s).wait = s.wait := rfl
@[simp] theorem ctxReset_params (s : State) : (ctxReset s).params = s.params := rfl
@[simp] theorem ctxReset_broughtUp (s : State) : (ctxReset s).broughtUp = s.broughtUp := rfl
@[simp] theorem ctxReset_events (s : State) : (ctxReset s).events = s.events := rfl
@[simp] theorem ctxReset_levels (s : State) : (ctxReset s).levels = s.levels := rfl

/-! `goto` -/

@[simp] theorem goto_state (q : StateId) (s : State) : (goto q s).state = q := rfl
@[simp] theorem goto_direction (q : StateId) (s : State) : (goto q s).direction = s.direction := rfl
@[simp] theorem goto_rxCount (q : StateId) (s : State) : (goto q s).rxCount = s.rxCount := rfl
@[simp] theorem goto_txCount (q : StateId) (s : State) : (goto q s).txCount = s.txCount := rfl
@[simp] theorem goto_cmd0 (q : StateId) (s : State) : (goto q s).cmd0 = s.cmd0 := rfl
@[simp] theorem goto_cmd1 (q : StateId) (s : State) : (goto q s).cmd1 = s.cmd1 := rfl
@[simp] theorem goto_sr (q : StateId) (s : State) : (goto q s).sr = s.sr := rfl
@[simp] theorem goto_cnt (q : StateId) (s : State) : (goto q s).cnt = s.cnt := rfl
@[simp] theorem goto_oe (q : StateId) (s : State) : (goto q s).oe = s.oe := rfl
@[simp] theorem goto_sttifg (q : StateId) (s : State) : (goto q s).sttifg = s.sttifg := rfl
@[simp] theorem goto_cntifg (q : StateId) (s : State) : (goto q s).cntifg = s.cntifg := rfl
@[simp] theorem goto_tie (q : StateId) (s : State) : (goto q s).tie = s.tie := rfl
@[simp] theorem goto_ccl (q : StateId) (s : State) : (goto q s).ccl = s.ccl := rfl
@[simp] theorem goto_cch (q : StateId) (s : State) : (goto q s).cch = s.cch := rfl
@[simp] theorem goto_inctl (q : StateId) (s : State) : (goto q s).inctl = s.inctl := rfl
@[simp] theorem goto_ie (q : StateId) (s : State) : (goto q s).ie = s.ie := rfl
@[simp] theorem goto_sc (q : StateId) (s : State) : (goto q s).sc = s.sc := rfl
@[simp] theorem goto_adcifg (q : StateId) (s : State) : (goto q s).adcifg = s.adcifg := rfl
@[simp] theorem goto_adcres (q : StateId) (s : State) : (goto q s).adcres = s.adcres := rfl
@[simp] theorem goto_sample (q : StateId) (s : State) : (goto q s).sample = s.sample := rfl
@[simp] theorem goto_txsel (q : StateId) (s : State) : (goto q s).txsel = s.txsel := rfl
@[simp] theorem goto_ae (q : StateId) (s : State) : (goto q s).ae = s.ae := rfl
@[simp] theorem goto_wait (q : StateId) (s : State) : (goto q s).wait = s.wait := rfl
@[simp] theorem goto_params (q : StateId) (s : State) : (goto q s).params = s.params := rfl
@[simp] theorem goto_broughtUp (q : StateId) (s : State) : (goto q s).broughtUp = s.broughtUp := rfl
@[simp] theorem goto_events (q : StateId) (s : State) : (goto q s).events = s.events := rfl
@[simp] theorem goto_levels (q : StateId) (s : State) : (goto q s).levels = s.levels := rfl

/-! `clearCmd` -/

@[simp] theorem clearCmd_state (s : State) : (clearCmd s).state = s.state := rfl
@[simp] theorem clearCmd_direction (s : State) : (clearCmd s).direction = s.direction := rfl
@[simp] theorem clearCmd_rxCount (s : State) : (clearCmd s).rxCount = s.rxCount := rfl
@[simp] theorem clearCmd_txCount (s : State) : (clearCmd s).txCount = s.txCount := rfl
@[simp] theorem clearCmd_cmd0 (s : State) : (clearCmd s).cmd0 = 0 := rfl
@[simp] theorem clearCmd_cmd1 (s : State) : (clearCmd s).cmd1 = 0 := rfl
@[simp] theorem clearCmd_sr (s : State) : (clearCmd s).sr = s.sr := rfl
@[simp] theorem clearCmd_cnt (s : State) : (clearCmd s).cnt = s.cnt := rfl
@[simp] theorem clearCmd_oe (s : State) : (clearCmd s).oe = s.oe := rfl
@[simp] theorem clearCmd_sttifg (s : State) : (clearCmd s).sttifg = s.sttifg := rfl
@[simp] theorem clearCmd_cntifg (s : State) : (clearCmd s).cntifg = s.cntifg := rfl
@[simp] theorem clearCmd_tie (s : State) : (clearCmd s).tie = s.tie := rfl
@[simp] theorem clearCmd_ccl (s : State) : (clearCmd s).ccl = s.ccl := rfl
@[simp] theorem clearCmd_cch (s : State) : (clearCmd s).cch = s.cch := rfl
@[simp] theorem clearCmd_inctl (s : State) : (clearCmd s).inctl = s.inctl := rfl
@[simp] theorem clearCmd_ie (s : State) : (clearCmd s).ie = s.ie := rfl
@[simp] theorem clearCmd_sc (s : State) : (clearCmd s).sc = s.sc := rfl
@[simp] theorem clearCmd_adcifg (s : State) : (clearCmd s).adcifg = s.adcifg := rfl
@[simp] theorem clearCmd_adcres (s : State) : (clearCmd s).adcres = s.adcres := rfl
@[simp] theorem clearCmd_sample (s : State) : (clearCmd s).sample = s.sample := rfl
@[simp] theorem clearCmd_txsel (s : State) : (clearCmd s).txsel = s.txsel := rfl
@[simp] theorem clearCmd_ae (s : State) : (clearCmd s).ae = s.ae := rfl
@[simp] theorem clearCmd_wait (s : State) : (clearCmd s).wait = s.wait := rfl
@[simp] theorem clearCmd_params (s : State) : (clearCmd s).params = s.params := rfl
@[simp] theorem clearCmd_broughtUp (s : State) : (clearCmd s).broughtUp = s.broughtUp := rfl
@[simp] theorem clearCmd_events (s : State) : (clearCmd s).events = s.events := rfl
@[simp] theorem clearCmd_levels (s : State) : (clearCmd s).levels = s.levels := rfl

/-! `startEntry` -/

@[simp] theorem startEntry_state (s : State) : (startEntry s).state = .addrCount := rfl
@[simp] theorem startEntry_direction (s : State) : (startEntry s).direction = .write := rfl
@[simp] theorem startEntry_rxCount (s : State) : (startEntry s).rxCount = 0 := rfl
@[simp] theorem startEntry_txCount (s : State) : (startEntry s).txCount = 0 := rfl
@[simp] theorem startEntry_cmd0 (s : State) : (startEntry s).cmd0 = s.cmd0 := rfl
@[simp] theorem startEntry_cmd1 (s : State) : (startEntry s).cmd1 = s.cmd1 := rfl
@[simp] theorem startEntry_sr (s : State) : (startEntry s).sr = s.sr := rfl
@[simp] theorem startEntry_cnt (s : State) : (startEntry s).cnt = s.cnt := rfl
@[simp] theorem startEntry_oe (s : State) : (startEntry s).oe = s.oe := rfl
@[simp] theorem startEntry_sttifg (s : State) : (startEntry s).sttifg = s.sttifg := rfl
@[simp] theorem startEntry_cntifg (s : State) : (startEntry s).cntifg = s.cntifg := rfl
@[simp] theorem startEntry_tie (s : State) : (startEntry s).tie = s.tie := rfl
@[simp] theorem startEntry_ccl (s : State) : (startEntry s).ccl = s.ccl := rfl
@[simp] theorem startEntry_cch (s : State) : (startEntry s).cch = s.cch := rfl
@[simp] theorem startEntry_inctl (s : State) : (startEntry s).inctl = s.inctl := rfl
@[simp] theorem startEntry_ie (s : State) : (startEntry s).ie = s.ie := rfl
@[simp] theorem startEntry_sc (s : State) : (startEntry s).sc = s.sc := rfl
@[simp] theorem startEntry_adcifg (s : State) : (startEntry s).adcifg = s.adcifg := rfl
@[simp] theorem startEntry_adcres (s : State) : (startEntry s).adcres = s.adcres := rfl
@[simp] theorem startEntry_sample (s : State) : (startEntry s).sample = s.sample := rfl
@[simp] theorem startEntry_txsel (s : State) : (startEntry s).txsel = s.txsel := rfl
@[simp] theorem startEntry_ae (s : State) : (startEntry s).ae = s.ae := rfl
@[simp] theorem startEntry_wait (s : State) : (startEntry s).wait = s.wait := rfl
@[simp] theorem startEntry_params (s : State) : (startEntry s).params = s.params := rfl
@[simp] theorem startEntry_broughtUp (s : State) : (startEntry s).broughtUp = s.broughtUp := rfl
@[simp] theorem startEntry_events (s : State) : (startEntry s).events = s.events := rfl
@[simp] theorem startEntry_levels (s : State) : (startEntry s).levels = s.levels := rfl

/-! `startEvent` -/

@[simp] theorem startEvent_state (s : State) : (startEvent s).state = s.state := rfl
@[simp] theorem startEvent_direction (s : State) : (startEvent s).direction = s.direction := rfl
@[simp] theorem startEvent_rxCount (s : State) : (startEvent s).rxCount = s.rxCount := rfl
@[simp] theorem startEvent_txCount (s : State) : (startEvent s).txCount = s.txCount := rfl
@[simp] theorem startEvent_cmd0 (s : State) : (startEvent s).cmd0 = s.cmd0 := rfl
@[simp] theorem startEvent_cmd1 (s : State) : (startEvent s).cmd1 = s.cmd1 := rfl
@[simp] theorem startEvent_sr (s : State) : (startEvent s).sr = s.sr := rfl
@[simp] theorem startEvent_cnt (s : State) : (startEvent s).cnt = s.cnt := rfl
@[simp] theorem startEvent_oe (s : State) : (startEvent s).oe = s.oe := rfl
@[simp] theorem startEvent_sttifg (s : State) : (startEvent s).sttifg = true := rfl
@[simp] theorem startEvent_cntifg (s : State) : (startEvent s).cntifg = s.cntifg := rfl
@[simp] theorem startEvent_tie (s : State) : (startEvent s).tie = s.tie := rfl
@[simp] theorem startEvent_ccl (s : State) : (startEvent s).ccl = s.ccl := rfl
@[simp] theorem startEvent_cch (s : State) : (startEvent s).cch = s.cch := rfl
@[simp] theorem startEvent_inctl (s : State) : (startEvent s).inctl = s.inctl := rfl
@[simp] theorem startEvent_ie (s : State) : (startEvent s).ie = s.ie := rfl
@[simp] theorem startEvent_sc (s : State) : (startEvent s).sc = s.sc := rfl
@[simp] theorem startEvent_adcifg (s : State) : (startEvent s).adcifg = s.adcifg := rfl
@[simp] theorem startEvent_adcres (s : State) : (startEvent s).adcres = s.adcres := rfl
@[simp] theorem startEvent_sample (s : State) : (startEvent s).sample = s.sample := rfl
@[simp] theorem startEvent_txsel (s : State) : (startEvent s).txsel = s.txsel := rfl
@[simp] theorem startEvent_ae (s : State) : (startEvent s).ae = s.ae := rfl
@[simp] theorem startEvent_wait (s : State) : (startEvent s).wait = s.wait := rfl
@[simp] theorem startEvent_params (s : State) : (startEvent s).params = s.params := rfl
@[simp] theorem startEvent_broughtUp (s : State) : (startEvent s).broughtUp = s.broughtUp := rfl
@[simp] theorem startEvent_events (s : State) : (startEvent s).events = s.events := rfl
@[simp] theorem startEvent_levels (s : State) : (startEvent s).levels = s.levels := rfl

/-! `reroute` -/

@[simp] theorem reroute_state (s : State) : (reroute s).state = s.state := rfl
@[simp] theorem reroute_direction (s : State) : (reroute s).direction = s.direction := rfl
@[simp] theorem reroute_rxCount (s : State) : (reroute s).rxCount = s.rxCount := rfl
@[simp] theorem reroute_txCount (s : State) : (reroute s).txCount = s.txCount := rfl
@[simp] theorem reroute_cmd0 (s : State) : (reroute s).cmd0 = s.cmd0 := rfl
@[simp] theorem reroute_cmd1 (s : State) : (reroute s).cmd1 = s.cmd1 := rfl
@[simp] theorem reroute_sr (s : State) : (reroute s).sr = s.sr := rfl
@[simp] theorem reroute_cnt (s : State) : (reroute s).cnt = s.cnt := rfl
@[simp] theorem reroute_oe (s : State) : (reroute s).oe = s.oe := rfl
@[simp] theorem reroute_sttifg (s : State) : (reroute s).sttifg = s.sttifg := rfl
@[simp] theorem reroute_cntifg (s : State) : (reroute s).cntifg = s.cntifg := rfl
@[simp] theorem reroute_tie (s : State) : (reroute s).tie = s.tie := rfl
@[simp] theorem reroute_ccl (s : State) : (reroute s).ccl = s.ccl := rfl
@[simp] theorem reroute_cch (s : State) : (reroute s).cch = s.cch := rfl
@[simp] theorem reroute_inctl (s : State) : (reroute s).inctl = s.inctl := rfl
@[simp] theorem reroute_ie (s : State) : (reroute s).ie = s.ie := rfl
@[simp] theorem reroute_sc (s : State) : (reroute s).sc = s.sc := rfl
@[simp] theorem reroute_adcifg (s : State) : (reroute s).adcifg = s.adcifg := rfl
@[simp] theorem reroute_adcres (s : State) : (reroute s).adcres = s.adcres := rfl
@[simp] theorem reroute_sample (s : State) : (reroute s).sample = s.sample := rfl
@[simp] theorem reroute_txsel (s : State) : (reroute s).txsel = s.txsel := rfl
@[simp] theorem reroute_ae (s : State) : (reroute s).ae = routing s.params s.cch s.inctl := rfl
@[simp] theorem reroute_wait (s : State) : (reroute s).wait = s.wait := rfl
@[simp] theorem reroute_params (s : State) : (reroute s).params = s.params := rfl
@[simp] theorem reroute_broughtUp (s : State) : (reroute s).broughtUp = s.broughtUp := rfl
@[simp] theorem reroute_events (s : State) : (reroute s).events = s.events := rfl
@[simp] theorem reroute_levels (s : State) : (reroute s).levels = s.levels := rfl

/-! `stopConversion` -/

@[simp] theorem stopConversion_state (s : State) : (stopConversion s).state = s.state := rfl
@[simp] theorem stopConversion_direction (s : State) : (stopConversion s).direction = s.direction := rfl
@[simp] theorem stopConversion_rxCount (s : State) : (stopConversion s).rxCount = s.rxCount := rfl
@[simp] theorem stopConversion_txCount (s : State) : (stopConversion s).txCount = s.txCount := rfl
@[simp] theorem stopConversion_cmd0 (s : State) : (stopConversion s).cmd0 = s.cmd0 := rfl
@[simp] theorem stopConversion_cmd1 (s : State) : (stopConversion s).cmd1 = s.cmd1 := rfl
@[simp] theorem stopConversion_sr (s : State) : (stopConversion s).sr = s.sr := rfl
@[simp] theorem stopConversion_cnt (s : State) : (stopConversion s).cnt = s.cnt := rfl
@[simp] theorem stopConversion_oe (s : State) : (stopConversion s).oe = s.oe := rfl
@[simp] theorem stopConversion_sttifg (s : State) : (stopConversion s).sttifg = s.sttifg := rfl
@[simp] theorem stopConversion_cntifg (s : State) : (stopConversion s).cntifg = s.cntifg := rfl
@[simp] theorem stopConversion_tie (s : State) : (stopConversion s).tie = s.tie := rfl
@[simp] theorem stopConversion_ccl (s : State) : (stopConversion s).ccl = s.ccl := rfl
@[simp] theorem stopConversion_cch (s : State) : (stopConversion s).cch = s.cch := rfl
@[simp] theorem stopConversion_inctl (s : State) : (stopConversion s).inctl = s.inctl := rfl
@[simp] theorem stopConversion_ie (s : State) : (stopConversion s).ie = s.ie := rfl
@[simp] theorem stopConversion_sc (s : State) : (stopConversion s).sc = false := rfl
@[simp] theorem stopConversion_adcifg (s : State) : (stopConversion s).adcifg = s.adcifg := rfl
@[simp] theorem stopConversion_adcres (s : State) : (stopConversion s).adcres = s.adcres := rfl
@[simp] theorem stopConversion_sample (s : State) : (stopConversion s).sample = s.sample := rfl
@[simp] theorem stopConversion_txsel (s : State) : (stopConversion s).txsel = s.txsel := rfl
@[simp] theorem stopConversion_ae (s : State) : (stopConversion s).ae = s.ae := rfl
@[simp] theorem stopConversion_wait (s : State) : (stopConversion s).wait = s.wait := rfl
@[simp] theorem stopConversion_params (s : State) : (stopConversion s).params = s.params := rfl
@[simp] theorem stopConversion_broughtUp (s : State) : (stopConversion s).broughtUp = s.broughtUp := rfl
@[simp] theorem stopConversion_events (s : State) : (stopConversion s).events = s.events := rfl
@[simp] theorem stopConversion_levels (s : State) : (stopConversion s).levels = s.levels := rfl

/-! `adcService` -/

@[simp] theorem adcService_state (s : State) : (adcService s).state = s.state := rfl
@[simp] theorem adcService_direction (s : State) : (adcService s).direction = s.direction := rfl
@[simp] theorem adcService_rxCount (s : State) : (adcService s).rxCount = s.rxCount := rfl
@[simp] theorem adcService_txCount (s : State) : (adcService s).txCount = s.txCount := rfl
@[simp] theorem adcService_cmd0 (s : State) : (adcService s).cmd0 = s.cmd0 := rfl
@[simp] theorem adcService_cmd1 (s : State) : (adcService s).cmd1 = s.cmd1 := rfl
@[simp] theorem adcService_sr (s : State) : (adcService s).sr = s.sr := rfl
@[simp] theorem adcService_cnt (s : State) : (adcService s).cnt = s.cnt := rfl
@[simp] theorem adcService_oe (s : State) : (adcService s).oe = s.oe := rfl
@[simp] theorem adcService_sttifg (s : State) : (adcService s).sttifg = s.sttifg := rfl
@[simp] theorem adcService_cntifg (s : State) : (adcService s).cntifg = s.cntifg := rfl
@[simp] theorem adcService_tie (s : State) : (adcService s).tie = s.tie := rfl
@[simp] theorem adcService_ccl (s : State) : (adcService s).ccl = s.ccl := rfl
@[simp] theorem adcService_cch (s : State) : (adcService s).cch = s.cch := rfl
@[simp] theorem adcService_inctl (s : State) : (adcService s).inctl = s.inctl := rfl
@[simp] theorem adcService_ie (s : State) : (adcService s).ie = s.ie := rfl
@[simp] theorem adcService_sc (s : State) : (adcService s).sc = s.sc := rfl
@[simp] theorem adcService_adcifg (s : State) : (adcService s).adcifg = false := rfl
@[simp] theorem adcService_adcres (s : State) : (adcService s).adcres = s.adcres := rfl
@[simp] theorem adcService_sample (s : State) : (adcService s).sample = s.adcres := rfl
@[simp] theorem adcService_txsel (s : State) : (adcService s).txsel = s.txsel := rfl
@[simp] theorem adcService_ae (s : State) : (adcService s).ae = s.ae := rfl
@[simp] theorem adcService_wait (s : State) : (adcService s).wait = s.wait := rfl
@[simp] theorem adcService_params (s : State) : (adcService s).params = s.params := rfl
@[simp] theorem adcService_broughtUp (s : State) : (adcService s).broughtUp = s.broughtUp := rfl
@[simp] theorem adcService_events (s : State) : (adcService s).events = s.events := rfl
@[simp] theorem adcService_levels (s : State) : (adcService s).levels = s.levels := rfl

end Sys2Proof.Machine
end

