-- ==== Sys2Proof/Laws/Ops.lean ====
section
/-!
SUPPORT. What the shared operations do, once each: the data line, the shift engine, the transmit fetch, the entry of a
service and the return from one.
-/

namespace Sys2Proof.Machine

theorem lineLevel_eq_and (m : Level) (s : State) : lineLevel m s = (m && !(s.oe && !s.sr.getLsbD 7)) := by
  unfold lineLevel sdaPull
  cases m <;> cases s.oe <;> cases s.sr.getLsbD 7 <;> rfl

@[simp] theorem lineLevel_released (m : Level) (s : State) (h : s.oe = false) : lineLevel m s = m := by
  simp [lineLevel_eq_and, h]

theorem shiftIn_getLsbD (sr : Byte) (l : Level) (k : Nat) (hk : k < 8) :
    (shiftIn sr l).getLsbD k = if k = 0 then l else sr.getLsbD (k - 1) := by
  unfold shiftIn
  rcases Nat.eq_zero_or_pos k with rfl | hpos
  · cases l <;> simp
  · have hk0 : k ≠ 0 := by omega
    cases l <;> simp [hk, hk0, BitVec.getLsbD_eq_getElem (show k - 1 < 8 by omega)]

/-- With nothing armed a pulse is ignored but for the level it returns (R122). -/
theorem clockEvent_idle (m : Level) (s : State) (h : s.cnt = 0) :
    clockEvent m s = { s with levels := lineLevel m s :: s.levels } := by
  simp [clockEvent, shiftStep, h]

/-- With bits armed a pulse shifts one in and raises the flag at the last (R122). -/
theorem clockEvent_shifting (m : Level) (s : State) (h : 0 < s.cnt) :
    clockEvent m s = { s with
      sr := shiftIn s.sr (lineLevel m s)
      cnt := s.cnt - 1
      cntifg := if s.cnt - 1 = 0 then true else s.cntifg
      levels := lineLevel m s :: s.levels } := by
  simp [clockEvent, shiftStep, h]

/-- A pulse writes the shift engine and the returned levels, nothing else. -/
theorem clockEvent_frame (m : Level) (s : State) :
    clockEvent m s = { s with
      sr := (clockEvent m s).sr
      cnt := (clockEvent m s).cnt
      cntifg := (clockEvent m s).cntifg
      levels := lineLevel m s :: s.levels } := by
  rcases Nat.eq_zero_or_pos s.cnt with h | h
  · simp [clockEvent_idle m s h]
  · simp [clockEvent_shifting m s h]

theorem txFetch_low (s : State) : txFetch 0 s = BitVec.ofNat 8 s.sample.toNat := by
  apply BitVec.eq_of_toNat_eq
  simp [txFetch, selected, BitVec.extractLsb'_toNat]

theorem txFetch_high (s : State) : txFetch 1 s = BitVec.ofNat 8 (s.sample.toNat / 256) := by
  apply BitVec.eq_of_toNat_eq
  simp [txFetch, selected, BitVec.extractLsb'_toNat, Nat.shiftRight_eq_div_pow]

theorem enterService_start (s : State) (h : s.sttifg = true) : enterService s = startEntry s := by
  simp [enterService, h]

theorem enterService_count (s : State) (h : s.sttifg = false) : enterService s = s := by
  simp [enterService, h]

theorem endService_running (s : State) (h : s.wait = false) : endService s = { s with cntifg := false } := by
  simp [endService, h]

theorem endService_suspended (s : State) (h : s.wait = true) : endService s = s := by
  simp [endService, h]

/-- The command buffer holds the byte stored at its index (R34). -/
theorem setCmd_zero (b : Byte) (s : State) : setCmd 0 b s = { s with cmd0 := b } := rfl

theorem setCmd_one (b : Byte) (s : State) : setCmd 1 b s = { s with cmd1 := b } := rfl

end Sys2Proof.Machine
end

