-- ==== Sys2Proof/Laws/Protocol.lean ====
section
/-!
SUPPORT. What the register protocol layer does, once each: the masked write, each configuration write, and `apply` as
the meaning of the decoded command.
-/

namespace Sys2Proof.Machine

theorem mergeBits_getLsbD (mask old new : Byte) (k : Nat) (hk : k < 8) :
    (mergeBits mask old new).getLsbD k = if mask.getLsbD k then new.getLsbD k else old.getLsbD k := by
  unfold mergeBits
  simp only [BitVec.getLsbD_or, BitVec.getLsbD_and, BitVec.getLsbD_not, hk, decide_true, Bool.true_and]
  cases mask.getLsbD k <;> simp

/-- Masked fields are equal exactly when the bits under the mask are. -/
theorem masked_eq_iff (mask a b : Byte) :
    a &&& mask = b &&& mask ↔ ∀ k, mask.getLsbD k = true → a.getLsbD k = b.getLsbD k := by
  constructor
  · intro h k hm
    have := congrArg (fun v => v.getLsbD k) h
    simpa [hm] using this
  · intro h
    apply BitVec.eq_of_getLsbD_eq
    intro k _
    cases hm : mask.getLsbD k
    · simp [hm]
    · simp [hm, h k hm]

theorem mergeBits_of_masked_eq (mask old new : Byte) (h : new &&& mask = old &&& mask) :
    mergeBits mask old new = old := by
  apply BitVec.eq_of_getLsbD_eq
  intro k hk
  rw [mergeBits_getLsbD _ _ _ _ hk]
  split
  · next hm => exact (masked_eq_iff mask new old).1 h k hm
  · rfl

/-- After a masked write the field holds the new value. -/
theorem mergeBits_masked (mask old new : Byte) : mergeBits mask old new &&& mask = new &&& mask := by
  rw [masked_eq_iff]
  intro k hm
  have hk : k < 8 := BitVec.lt_of_getLsbD hm
  rw [mergeBits_getLsbD _ _ _ _ hk, if_pos hm]

/-- `WRCCL` in one equation: the masked bits of `CCL` are the value's, whether or not they differed (R171). -/
theorem rerouteIfChanged_writeCcl (v : Byte) (s : State) :
    rerouteIfChanged (writeCcl v s) = { s with ccl := mergeBits s.params.mDF s.ccl v } := by
  unfold writeCcl
  split
  · next h => simp [rerouteIfChanged, mergeBits_of_masked_eq _ _ _ h]
  · rfl

theorem rerouteIfChanged_writeCch_same (v : Byte) (s : State)
    (h : v &&& s.params.mCfg = s.cch &&& s.params.mCfg) : rerouteIfChanged (writeCch v s) = s := by
  simp [writeCch, rerouteIfChanged, h]

theorem rerouteIfChanged_writeCch_changed (v : Byte) (s : State)
    (h : v &&& s.params.mCfg ≠ s.cch &&& s.params.mCfg) :
    rerouteIfChanged (writeCch v s) = { s with
      cch := mergeBits s.params.mCfg s.cch v
      ie := isCont s.params (mergeBits s.params.mCfg s.cch v)
      ae := routing s.params (mergeBits s.params.mCfg s.cch v) s.inctl } := by
  simp [writeCch, rerouteIfChanged, h, reroute, derivedIe]

theorem rerouteIfChanged_writeInctl_same (s : State) : rerouteIfChanged (writeInctl s.inctl s) = s := by
  simp [writeInctl, rerouteIfChanged]

theorem rerouteIfChanged_writeInctl_changed (v : Byte) (s : State) (h : v ≠ s.inctl) :
    rerouteIfChanged (writeInctl v s) = { s with inctl := v, ae := routing s.params s.cch v } := by
  simp [writeInctl, rerouteIfChanged, h, reroute]

/-- `apply` is the meaning of the command it decodes to (R170, R97). -/
theorem exec_decodeCommand (op val : Byte) (s : State) :
    exec (decodeCommand op val) s = .next (apply op val s) := by
  unfold decodeCommand apply
  repeat' split
  all_goals simp_all [exec, execWrccl, execWrcch, execWrinctl, execConvstart, execConvstop, execIgnored, writeConv,
    rerouteIfChanged]

/-- `AddrMatch` is the meaning of the address class of the shifted byte (R143, R97). -/
theorem exec_addrMatch (s : State) : exec .addrMatch s = exec (decodeAddress s.sr) s := by
  show execAddrMatch s = _
  unfold execAddrMatch decodeAddress
  by_cases h : s.sr = 0x16 ∨ s.sr = 0x17
  · rcases h with h | h <;> rw [h] <;> rfl
  · have hw : s.sr ≠ addressByte slaveAddr false := fun e => h (.inl (e.trans addressByte_own_write))
    have hr : s.sr ≠ addressByte slaveAddr true := fun e => h (.inr (e.trans addressByte_own_read))
    rw [if_neg (fun e => h ((own_address_iff _).1 e)), if_neg hw, if_neg hr]
    rfl

/-- `isCont` as the predicate of R22. -/
theorem isCont_iff (p : Params) (c : Byte) : isCont p c = true ↔ Safety.ContinuousMode p c := by
  unfold isCont Safety.ContinuousMode
  by_cases h : c &&& p.mMode = 0 <;> cases p.modeContLevel <;> simp [h]

theorem isSingle_iff (p : Params) (c : Byte) : isSingle p c = true ↔ ¬ Safety.ContinuousMode p c := by
  rw [← isCont_iff]
  simp [isSingle]

end Sys2Proof.Machine
end

