-- ==== Sys2Proof/Laws/Exec.lean ====
section
/-!
SUPPORT. Every instruction completes, and every transport service with it: nothing in this hardware stops a step but
the environment's own forbidden move.
-/

namespace Sys2Proof.Machine

theorem exec_next (i : Instr) (s : State) : ∃ t, exec i s = .next t := by
  cases i with
  | addrMatch => rw [exec_addrMatch]; unfold decodeAddress; split_ifs <;> exact ⟨_, rfl⟩
  | rxEval => show ∃ t, execRxEval s = _; unfold execRxEval; dsimp only; split <;> exact ⟨_, rfl⟩
  | ackEval => show ∃ t, execAckEval s = _; unfold execAckEval; split <;> exact ⟨_, rfl⟩
  | _ => exact ⟨_, rfl⟩

theorem transportService_next (s : State) : ∃ t, transportService s = .next t := by
  obtain ⟨t, h⟩ := exec_next (stateInstr (enterService s).state) (enterService s)
  exact ⟨endService t, by simp [transportService, h, mapNext]⟩

theorem runInternal_next (k : Internal) (s : State) : ∃ t, runInternal k s = .next t := by
  cases k with
  | waitDone => exact ⟨_, rfl⟩
  | transport => exact transportService_next s
  | adc => exact ⟨_, rfl⟩

/-- What a transport service is: the entry, the step of the state id, the return. -/
theorem transportService_eq {s t : State} (h : transportService s = .next t) :
    ∃ u, exec (stateInstr (enterService s).state) (enterService s) = .next u ∧ t = endService u := by
  obtain ⟨u, hu⟩ := exec_next (stateInstr (enterService s).state) (enterService s)
  refine ⟨u, hu, ?_⟩
  rw [transportService, hu] at h
  exact (Host.Outcome.next.inj h).symm

end Sys2Proof.Machine
end

