-- ==== Sys2Proof/Laws/Step.lean ====
section
/-!
SUPPORT. Everything a step can do, said once: the bring-up, one of the three internal steps, an event of the schedule,
or nothing.
-/

namespace Sys2Proof.Machine

open Sys2Proof.Safety

theorem step_bringUp {s : State} (h : s.broughtUp = false) : step s = .next (bringUp s) := by
  simp [step, nextStep, h]

theorem step_internal {s : State} (h : s.broughtUp = true) {k : Internal} (hk : enabledStep s = some k) :
    step s = runInternal k s := by
  simp [step, nextStep, runningStep, h, hk]

theorem step_event {s : State} (h : s.broughtUp = true) (hq : Quiescent s) {e : Event} {es : List Event}
    (he : s.events = e :: es) : step s = takeEvent e { s with events := es } := by
  have hq' : enabledStep s = none := hq
  simp [step, nextStep, runningStep, h, hq', he]

theorem step_idle {s : State} (h : s.broughtUp = true) (hq : Quiescent s) (he : s.events = []) : step s = .next s := by
  have hq' : enabledStep s = none := hq
  simp [step, nextStep, runningStep, h, hq', he]

theorem enabledStep_waitDone {s : State} : enabledStep s = some .waitDone ↔ waitDoneEnabled s = true := by
  unfold enabledStep
  cases h : waitDoneEnabled s <;> cases transportEnabled s <;> cases adcEnabled s <;> simp

theorem enabledStep_transport {s : State} :
    enabledStep s = some .transport ↔ transportEnabled s = true := by
  unfold enabledStep waitDoneEnabled transportEnabled
  cases s.wait <;> cases s.adcifg <;> cases s.tie <;> cases s.sttifg <;> cases s.cntifg <;>
    cases adcEnabled s <;> simp

theorem enabledStep_adc {s : State} :
    enabledStep s = some .adc ↔ adcEnabled s = true ∧ transportEnabled s = false := by
  unfold enabledStep waitDoneEnabled transportEnabled adcEnabled
  cases s.wait <;> cases s.adcifg <;> cases s.tie <;> cases s.sttifg <;> cases s.cntifg <;>
    cases s.ie <;> simp

theorem quiescent_iff {s : State} :
    Quiescent s ↔ waitDoneEnabled s = false ∧ transportEnabled s = false ∧ adcEnabled s = false := by
  unfold Quiescent enabledStep
  cases waitDoneEnabled s <;> cases transportEnabled s <;> cases adcEnabled s <;> simp

/-- The inversion of a step (R14, R242): if it answers a next state, one of these six cases holds. -/
theorem step_cases {s t : State} (h : step s = .next t) :
    (s.broughtUp = false ∧ t = bringUp s) ∨
    (s.broughtUp = true ∧ waitDoneEnabled s = true ∧ t = waitDone s) ∨
    (s.broughtUp = true ∧ transportEnabled s = true ∧ transportService s = .next t) ∨
    (s.broughtUp = true ∧ transportEnabled s = false ∧ adcEnabled s = true ∧ t = adcService s) ∨
    (s.broughtUp = true ∧ Quiescent s ∧
      ∃ e es, s.events = e :: es ∧ takeEvent e { s with events := es } = .next t) ∨
    (s.broughtUp = true ∧ Quiescent s ∧ s.events = [] ∧ t = s) := by
  rcases Bool.eq_false_or_eq_true s.broughtUp with hb | hb
  · right
    rcases hk : enabledStep s with _ | k
    · right; right; right
      rcases he : s.events with _ | ⟨e, es⟩
      · rw [step_idle hb hk he] at h
        exact .inr ⟨hb, hk, rfl, (Host.Outcome.next.inj h).symm⟩
      · rw [step_event hb hk he] at h
        exact .inl ⟨hb, hk, e, es, rfl, h⟩
    · rw [step_internal hb hk] at h
      cases k with
      | waitDone => exact .inl ⟨hb, enabledStep_waitDone.1 hk, (Host.Outcome.next.inj h).symm⟩
      | transport => exact .inr (.inl ⟨hb, enabledStep_transport.1 hk, h⟩)
      | adc =>
        exact .inr (.inr (.inl ⟨hb, (enabledStep_adc.1 hk).2, (enabledStep_adc.1 hk).1,
          (Host.Outcome.next.inj h).symm⟩))
  · rw [step_bringUp hb] at h
    exact .inl ⟨hb, (Host.Outcome.next.inj h).symm⟩

/-- What an event does, if it is a move of the hardware (R13). -/
theorem takeEvent_cases {e : Event} {s t : State} (h : takeEvent e s = .next t) :
    (e = .start ∧ t = startEvent s) ∨ (e = .stop ∧ t = s) ∨ (∃ m, e = .clock m ∧ t = clockEvent m s) ∨
    (∃ v, e = .adcComplete v ∧ s.sc = true ∧ t = adcLatch v s) := by
  cases e with
  | start => exact .inl ⟨rfl, (Host.Outcome.next.inj h).symm⟩
  | stop => exact .inr (.inl ⟨rfl, (Host.Outcome.next.inj h).symm⟩)
  | clock m => exact .inr (.inr (.inl ⟨m, rfl, (Host.Outcome.next.inj h).symm⟩))
  | adcComplete v =>
    right; right; right
    simp only [takeEvent, adcCompleteEvent] at h
    split at h
    · next hs => exact ⟨v, rfl, hs, (Host.Outcome.next.inj h).symm⟩
    · cases h

/-- Everything a transport service can do (R140, R153): the nine successors of the whole machine. -/
theorem transportService_cases {s t : State} (h : transportService s = .next t) :
    (s.sttifg = true ∧ t = endService { s with
      direction := .write, rxCount := 0, txCount := 0, oe := false, cnt := 8, sttifg := false, state := .addrMatch }) ∨
    (s.sttifg = false ∧ exec (stateInstr s.state) s = .next t ∧ t.wait = true) ∨
    (s.sttifg = false ∧ ∃ u, exec (stateInstr s.state) s = .next u ∧ u.wait = false ∧
      t = { u with cntifg := false }) := by
  obtain ⟨u, hu, rfl⟩ := transportService_eq h
  cases hs : s.sttifg with
  | true =>
    rw [enterService_start s hs] at hu
    exact .inl ⟨rfl, by rw [← Host.Outcome.next.inj hu]; rfl⟩
  | false =>
    rw [enterService_count s hs] at hu
    cases hw : u.wait with
    | true => exact .inr (.inl ⟨rfl, by rw [endService_suspended u hw]; exact hu, by rw [endService_suspended u hw, hw]⟩)
    | false => exact .inr (.inr ⟨rfl, u, hu, hw, endService_running u hw⟩)

end Sys2Proof.Machine
end

