-- ==== Sys2Proof/Laws/Frame.lean ====
section
/-!
SUPPORT. What each shared operation of the protocol layer and of the transport can write: a state equals the state
before with only the named fields replaced. Every frame claim follows from these.
-/

namespace Sys2Proof.Machine

open Sys2Proof.Safety

/-- `apply` writes the configuration, its derived registers, the start bit and the wait (R170 to R176, R191, R194). -/
theorem apply_frame (op v : Byte) (s : State) : apply op v s = { s with
    ccl := (apply op v s).ccl, cch := (apply op v s).cch, inctl := (apply op v s).inctl, ie := (apply op v s).ie,
    ae := (apply op v s).ae, sc := (apply op v s).sc, txsel := (apply op v s).txsel, wait := (apply op v s).wait } := by
  unfold apply rerouteIfChanged writeCcl writeCch writeInctl writeConv startConversion stopConversion
  split_ifs <;> rfl

/-- The store of `RxEval` writes the buffer and its count (R146). -/
theorem storeByte_frame (s : State) : storeByte s = { s with
    cmd0 := (storeByte s).cmd0, cmd1 := (storeByte s).cmd1, rxCount := (storeByte s).rxCount } := by
  unfold storeByte setCmd
  split_ifs
  · split <;> rfl
  · rfl

/-- The acknowledgment decision writes the context, the state and the shift engine (R147). -/
theorem decideAck_frame (s : State) : decideAck s = { s with
    state := (decideAck s).state, direction := (decideAck s).direction, rxCount := (decideAck s).rxCount,
    txCount := (decideAck s).txCount, sr := (decideAck s).sr, cnt := (decideAck s).cnt, oe := (decideAck s).oe } := by
  unfold decideAck
  split_ifs <;> rfl

/-- `TxLoad` writes the state, its count and the shift engine (R152). -/
theorem txLoad_frame (s : State) : txLoad s = { s with
    state := (txLoad s).state, txCount := (txLoad s).txCount, sr := (txLoad s).sr, cnt := (txLoad s).cnt,
    oe := (txLoad s).oe } := by
  simp only [txLoad]
  split <;> rfl

/-- `RxEval` writes the context, the buffer, the state, the shift engine and what its command writes (R146, R147). -/
theorem exec_rxEval_frame {s t : State} (h : exec .rxEval s = .next t) : t = { s with
    state := t.state, direction := t.direction, rxCount := t.rxCount, txCount := t.txCount, cmd0 := t.cmd0,
    cmd1 := t.cmd1, sr := t.sr, cnt := t.cnt, oe := t.oe, ccl := t.ccl, cch := t.cch, inctl := t.inctl, ie := t.ie,
    ae := t.ae, sc := t.sc, txsel := t.txsel, wait := t.wait } := by
  simp only [exec, execRxEval] at h
  split_ifs at h <;> cases h
  · unfold afterApply
    split_ifs
    · rw [apply_frame, storeByte_frame]
    · rw [decideAck_frame, apply_frame, storeByte_frame]
      rfl
  · rw [decideAck_frame, storeByte_frame]

/-- The other service steps write the context, the state, the shift engine and the start flag. -/
theorem exec_stateInstr_frame {q : StateId} {s t : State} (hq : q ≠ .rxEval) (h : exec (stateInstr q) s = .next t) :
    t = { s with
      state := t.state, direction := t.direction, rxCount := t.rxCount, txCount := t.txCount, sr := t.sr, cnt := t.cnt,
      oe := t.oe, sttifg := t.sttifg } ∧ (q ≠ .addrCount → t.sttifg = s.sttifg) := by
  cases q with
  | rxEval => exact absurd rfl hq
  | addrMatch =>
    simp only [stateInstr, exec_addrMatch, decodeAddress] at h
    split_ifs at h <;> cases h <;> exact ⟨rfl, fun _ => rfl⟩
  | ackEval =>
    simp only [stateInstr, exec, execAckEval] at h
    split_ifs at h <;> cases h
    · exact ⟨rfl, fun _ => rfl⟩
    · exact ⟨by rw [txLoad_frame], fun _ => by rw [txLoad_frame]⟩
  | txByte =>
    cases h
    exact ⟨by rw [txLoad_frame], fun _ => by rw [txLoad_frame]⟩
  | addrCount => cases h; exact ⟨rfl, fun hc => absurd rfl hc⟩
  | idle => cases h; exact ⟨rfl, fun _ => rfl⟩
  | rxByte => cases h; exact ⟨rfl, fun _ => rfl⟩
  | ackWait => cases h; exact ⟨rfl, fun _ => rfl⟩
  | abort => cases h; exact ⟨rfl, fun _ => rfl⟩

/-- The service of a pending start, in one equation (R140 to R142). -/
theorem transportService_start {s : State} (hs : s.sttifg = true) (hw : s.wait = false) :
    transportService s = .next { s with
      direction := .write, rxCount := 0, txCount := 0, oe := false, cnt := 8, sttifg := false, cntifg := false,
      state := .addrMatch } := by
  simp [transportService, enterService_start s hs, stateInstr, exec, execAddrCount, mapNext, endService, hw, goto, armIn,
    startEntry, ctxReset, addrBits]

/-- With no start pending the service is the step of the state id and the return (R140). -/
theorem transportService_count {s : State} (hs : s.sttifg = false) :
    transportService s = mapNext endService (exec (stateInstr s.state) s) := by
  simp [transportService, enterService_count s hs]

/-- The step of a core with a count event pending (R140). -/
theorem step_serving {s : State} (h : Serving s) : step s = mapNext endService (exec (stateInstr s.state) s) := by
  have ht : transportEnabled s = true := by simp [transportEnabled, h.listening, h.idle, h.counted]
  rw [step_internal h.up (enabledStep_transport.2 ht)]
  exact transportService_count h.noStart

/-- No transport service writes the sample, the result, its flag, the transport enable, the parameters, the schedule or
the returned levels. -/
theorem transportService_frame {s t : State} (h : transportService s = .next t) : t = { s with
    state := t.state, direction := t.direction, rxCount := t.rxCount, txCount := t.txCount, cmd0 := t.cmd0,
    cmd1 := t.cmd1, sr := t.sr, cnt := t.cnt, oe := t.oe, sttifg := t.sttifg, cntifg := t.cntifg, ccl := t.ccl,
    cch := t.cch, inctl := t.inctl, ie := t.ie, ae := t.ae, sc := t.sc, txsel := t.txsel, wait := t.wait } := by
  rcases transportService_cases h with ⟨_, rfl⟩ | ⟨_, hu, _⟩ | ⟨_, u, hu, _, rfl⟩
  · unfold endService; split <;> rfl
  all_goals
    by_cases hq : s.state = .rxEval
    · rw [hq] at hu
      rw [exec_rxEval_frame hu]
    · rw [(exec_stateInstr_frame hq hu).1]

end Sys2Proof.Machine
end

