-- ==== Sys2Proof/Laws/PerInstr.lean ====
section
/-!
SUPPORT. Statements about every instruction as syntax, one lemma per constructor of Instr.
-/

namespace Sys2Proof.Laws.EncodedLength

/-- A command travels as two bytes and every other instruction is one byte (R91, R93, R99, R102). -/
def Statement (i : Instr) : Prop :=
  (encode i).length = match i.format with
    | .cmd => 2
    | .addr => 1
    | .state => 1

theorem wrccl (val : Byte) : Statement (.wrccl val) := rfl
theorem wrcch (val : Byte) : Statement (.wrcch val) := rfl
theorem wrinctl (val : Byte) : Statement (.wrinctl val) := rfl
theorem convstart (ign : BitVec 7) : Statement (.convstart ign) := rfl
theorem convstop (ign : BitVec 7) : Statement (.convstop ign) := rfl
theorem ignored (op val : Byte) : Statement (.ignored op val) := rfl
theorem addrw : Statement .addrw := rfl
theorem addrr : Statement .addrr := rfl
theorem addrmiss (addr7 : BitVec 7) (rw : Level) : Statement (.addrmiss addr7 rw) := rfl
theorem idle : Statement .idle := rfl
theorem addrCount : Statement .addrCount := rfl
theorem addrMatch : Statement .addrMatch := rfl
theorem rxByte : Statement .rxByte := rfl
theorem rxEval : Statement .rxEval := rfl
theorem txByte : Statement .txByte := rfl
theorem ackWait : Statement .ackWait := rfl
theorem ackEval : Statement .ackEval := rfl
theorem abort : Statement .abort := rfl

end Sys2Proof.Laws.EncodedLength
end

