-- ==== Sys2Proof/Tests/Slice0.lean ====
section
/-!
SUPPORT. The model's own tests. Expected values come from spec/95_test_vectors.md, from the examples of the rules or
from the encodings of spec/30_encoding.md, as each group says. The last part shows that the hypotheses of every
statement can be met.
-/

namespace Sys2Proof.Tests

open Sys2Proof Sys2Proof.Machine Sys2Proof.Safety

/-- The next state of an outcome, if it is one. -/
def nextOf : Host.Outcome State Fault Refusal → Option State
  | .next s => some s
  | .fault _ => none
  | .refused _ => none

/-- What a test looks at in the state an outcome leads to. -/
def see {α : Type} (f : State → α) (o : Host.Outcome State Fault Refusal) : Option α := (nextOf o).map f

/-- "launch()" of spec/95: every launch parameter 0. -/
def launched : State := bringUpWith ⟨0x00, 0x00, 0x00, false, 0x00, 0x0000⟩ State.reset

/-- A core with the service step of `q` due. -/
def serving (q : StateId) : State := placeState q launched

/-- The shift engine armed for `n` bits. -/
def engine (sr : Byte) (n : Nat) (oe : Level) : State := { State.reset with sr := sr, cnt := n, oe := oe }

/-! ## Well-formedness: an ill-formed term for each check -/

theorem test_ignored_is_no_defined_opcode :
    (Instr.ignored 0xA0 0x01).wellFormed = false ∧ (Instr.ignored 0xA1 0x01).wellFormed = false ∧
    (Instr.ignored 0xB0 0x01).wellFormed = false ∧ (Instr.ignored 0xFF 0x01).wellFormed = false ∧
    (Instr.ignored 0xFE 0x01).wellFormed = true := by decide

theorem test_addrmiss_is_another_address :
    (Instr.addrmiss 0x0B false).wellFormed = false ∧ (Instr.addrmiss 0x0B true).wellFormed = false ∧
    (Instr.addrmiss 0x0C false).wellFormed = true := by decide

theorem test_default_layout_is_well_formed : defaultParams.wellFormed = true := by decide

theorem test_layout_check_refuses : { defaultParams with mCfg := 0x0F }.wellFormed = false ∧
    { defaultParams with mUni := 0x04 }.wellFormed = false ∧
    { defaultParams with mInch := 0x05 }.wellFormed = false := by decide

/-! ## Decoding: words written out bit by bit from R91, R93, R97, R102 -/

theorem test_decode_commands :
    decode .cmd [0b10100000, 0b00010000] = .ok (.wrccl 0x10, []) ∧
    decode .cmd [0b10100001, 0b00000100] = .ok (.wrcch 0x04, []) ∧
    decode .cmd [0b10110000, 0b00001001] = .ok (.wrinctl 0x09, []) ∧
    decode .cmd [0b11111111, 0b00000001] = .ok (.convstart 0, []) ∧
    decode .cmd [0b11111111, 0b10000000] = .ok (.convstop 64, []) ∧
    decode .cmd [0b10110001, 0b00000001] = .ok (.ignored 0xB1 0x01, []) := ⟨rfl, rfl, rfl, rfl, rfl, rfl⟩

theorem test_decode_addresses :
    decode .addr [0b00010110] = .ok (.addrw, []) ∧ decode .addr [0b00010111] = .ok (.addrr, []) ∧
    decode .addr [0b00011001] = .ok (.addrmiss 0x0C true, []) ∧
    decode .addr [0b10010110] = .ok (.addrmiss 0x4B false, []) := ⟨rfl, rfl, rfl, rfl⟩

theorem test_decode_states :
    decode .state [0b00000000] = .ok (.idle, []) ∧ decode .state [0b00000010] = .ok (.addrCount, []) ∧
    decode .state [0b00000100] = .ok (.addrMatch, []) ∧ decode .state [0b00000110] = .ok (.rxByte, []) ∧
    decode .state [0b00001000] = .ok (.rxEval, []) ∧ decode .state [0b00001010] = .ok (.txByte, []) ∧
    decode .state [0b00001100] = .ok (.ackWait, []) ∧ decode .state [0b00001110] = .ok (.ackEval, []) ∧
    decode .state [0b00010000] = .ok (.abort, []) := ⟨rfl, rfl, rfl, rfl, rfl, rfl, rfl, rfl, rfl⟩

theorem test_decode_rejects_by_name :
    decode .state [0b00000011] = .error (.notAState 3) ∧ decode .state [0b00010010] = .error (.notAState 18) ∧
    decode .cmd [0b10100000] = .error .truncated := ⟨rfl, rfl, rfl⟩

theorem test_encode_words :
    encode (.wrcch 0x1F) = [0b10100001, 0b00011111] ∧ encode (.convstart 1) = [0b11111111, 0b00000011] ∧
    encode (.convstop 127) = [0b11111111, 0b11111110] ∧ encode (.addrmiss 0x0C true) = [0b00011001] ∧
    encode .addrr = [0b00010111] ∧ encode .ackEval = [0b00001110] := by decide

/-! ## Fetching: a placed word is the next instruction (values of spec/95 sections 2.2, 1.6, 1.4) -/

theorem test_placed_command_runs :
    see (fun t => (t.inctl, t.ae, t.state)) (step (State.reset.withFetchWord 16 0xB001)) =
      some (0x01, 0x0C, .idle) := by decide

theorem test_placed_address_runs :
    see (fun t => (t.state, t.sr, t.cnt, t.oe)) (step (State.reset.withFetchWord 8 0x18)) =
      some (.abort, 0xFF, 1, true) := by decide

theorem test_placed_state_runs :
    see (fun t => (t.state, t.cnt, t.oe)) (step (State.reset.withFetchWord 8 0x0C)) = some (.ackEval, 1, false) := by
  decide

theorem test_first_step_is_the_bring_up : step State.reset = .next (bringUp State.reset) := rfl

/-! ## The shift engine (spec/95 section 2.1) -/

theorem test_master_overrides_a_nack :
    see (fun t => (t.levels, t.sr, t.cnt, t.cntifg)) (takeEvent (.clock false) (engine 0xFF 1 true)) =
      some ([false], 0xFE, 0, true) := by decide

theorem test_acknowledgment_is_driven :
    see (fun t => (t.levels, t.sr, t.cntifg)) (takeEvent (.clock true) (engine 0x00 1 true)) =
      some ([false], 0x00, true) := by decide

theorem test_received_nack_enters_at_bit_zero :
    see (fun t => (t.levels, t.sr, t.cntifg)) (takeEvent (.clock true) (engine 0x34 1 false)) =
      some ([true], 0x69, true) := by decide

theorem test_unarmed_pulse_shifts_nothing :
    see (fun t => (t.levels, t.sr, t.cnt, t.cntifg)) (takeEvent (.clock false) (engine 0x5A 0 false)) =
      some ([false], 0x5A, 0, false) := by decide

theorem test_count_event_only_at_the_last_bit :
    see (fun t => (t.sr, t.cnt, t.cntifg)) (takeEvent (.clock true) (engine 0x02 3 false)) =
      some (0x05, 2, false) := by decide

/-! ## The register protocol (spec/95 sections 1.1 to 1.3 and 2.4) -/

theorem test_wrccl_sets_the_format_bit_only :
    see (fun t => (t.ccl, t.ae)) (exec (.wrccl 0x10) { launched with ccl := 0x0F }) = some (0x1F, 0x00) := by decide

theorem test_wrccl_same_bit :
    see (fun t => t.ccl) (exec (.wrccl 0xFF) { launched with ccl := 0x1F }) = some 0x1F := by decide

theorem test_wrcch_keeps_the_upper_bits :
    see (fun t => (t.cch, t.ie, t.ae)) (exec (.wrcch 0xFF) { launched with cch := 0xE0 }) =
      some (0xFF, true, 0x01) := by decide

theorem test_wrcch_same_bits_leave_a_wrong_enable :
    see (fun t => (t.cch, t.ie, t.ae)) (exec (.wrcch 0x04) { launched with cch := 0x04 }) =
      some (0x04, false, 0x00) := by decide

theorem test_wrinctl_routes_a_bipolar_pair :
    see (fun t => (t.inctl, t.ae)) (exec (.wrinctl 0x41) { launched with inctl := 0x80, ae := 0xFF }) =
      some (0x41, 0x0C) := by decide

theorem test_wrinctl_unsupported_channel :
    see (fun t => (t.inctl, t.ae)) (exec (.wrinctl 0x07) { launched with inctl := 0x80, ae := 0xFF, cch := 0x10 }) =
      some (0x07, 0x00) := by decide

theorem test_ignored_changes_nothing : nextOf (exec (.ignored 0xA2 0x55) launched) = some launched := by decide

/-! ## The ADC controller (spec/95 sections 1.4, 1.7, 2.5) -/

theorem test_convstart_single_shot_waits :
    see (fun t => (t.sc, t.wait)) (exec (.convstart 0) { launched with cch := 0x10 }) = some (true, true) := by decide

theorem test_convstart_continuous_returns :
    see (fun t => (t.sc, t.wait)) (exec (.convstart 1) { launched with cch := 0x04 }) = some (true, false) := by decide

theorem test_convstop_keeps_the_sample :
    see (fun t => (t.sc, t.sample)) (exec (.convstop 127) { launched with sc := true, sample := 0x0BB8 }) =
      some (false, 0x0BB8) := by decide

theorem test_completion_single_shot_clears_the_start_bit :
    see (fun t => (t.adcres, t.adcifg, t.sc)) (takeEvent (.adcComplete 0x2222) { launched with sc := true }) =
      some (0x2222, true, false) := by decide

theorem test_completion_after_a_stop_is_refused :
    takeEvent (.adcComplete 0x1111) launched = .refused .completionNotEnabled := rfl

theorem test_wait_done :
    see (fun t => (t.sample, t.adcifg, t.wait, t.cmd0, t.state, t.cntifg))
      (step { serving .rxEval with wait := true, adcifg := true, adcres := 0x1234, rxCount := 2, cmd0 := 0xFF }) =
      some (0x1234, false, false, 0x00, .idle, false) := by decide

theorem test_completion_interrupt :
    see (fun t => (t.sample, t.adcifg)) (step { launched with ie := true, adcifg := true, adcres := 0xFFFE }) =
      some (0xFFFE, false) := by decide

/-! ## The transport (spec/95 sections 2.2, 2.3, 2.6, 2.8 and the examples of R141 to R154) -/

theorem test_start_overtakes_a_count_event :
    see (fun t => (t.state, t.rxCount, t.cnt, t.sttifg, t.cntifg, t.inctl))
      (step { serving .rxEval with rxCount := 1, cmd0 := 0xB0, sr := 0x01, sttifg := true }) =
      some (.addrMatch, 0, 8, false, false, 0x00) := by decide

theorem test_start_interrupts_a_transmit :
    see (fun t => (t.state, t.txCount, t.cnt, t.oe))
      (step { launched with state := .ackWait, txCount := 1, cnt := 5, oe := true, sttifg := true }) =
      some (.addrMatch, 0, 8, false) := by decide

theorem test_addrw : see (fun t => (t.state, t.direction, t.sr, t.cnt, t.oe)) (exec .addrw launched) =
    some (.rxByte, .write, 0x00, 1, true) := by decide

theorem test_addrr : see (fun t => (t.state, t.direction, t.sr, t.cnt, t.oe)) (exec .addrr launched) =
    some (.txByte, .read, 0x00, 1, true) := by decide

theorem test_addrmiss : see (fun t => (t.state, t.sr, t.cnt, t.oe)) (exec (.addrmiss 0x0C true) launched) =
    some (.abort, 0xFF, 1, true) := by decide

theorem test_idle : see (fun t => (t.state, t.cntifg)) (step (serving .idle)) = some (.idle, false) := by decide

theorem test_addrCount : see (fun t => (t.state, t.cnt, t.oe, t.sttifg)) (exec .addrCount (engine 0x00 5 true)) =
    some (.addrMatch, 8, false, false) := by decide

theorem test_addrMatch_read : see (fun t => (t.state, t.direction, t.sr))
    (exec .addrMatch { launched with sr := 0x17 }) = some (.txByte, .read, 0x00) := by decide

theorem test_addrMatch_bit_seven_differs : see (fun t => (t.state, t.direction, t.sr))
    (exec .addrMatch { launched with sr := 0x97 }) = some (.abort, .write, 0xFF) := by decide

theorem test_rxByte : see (fun t => (t.state, t.cnt, t.oe)) (step { serving .rxByte with oe := true }) =
    some (.rxEval, 8, false) := by decide

theorem test_rxEval_first_byte :
    see (fun t => (t.cmd0, t.rxCount, t.state, t.sr, t.cnt, t.oe)) (step { serving .rxEval with sr := 0xB0 }) =
      some (0xB0, 1, .rxByte, 0x00, 1, true) := by decide

theorem test_rxEval_second_byte :
    see (fun t => (t.inctl, t.ae, t.cmd0, t.rxCount, t.state, t.sr))
      (step { serving .rxEval with cch := 0x10, rxCount := 1, cmd0 := 0xB0, sr := 0x09 }) =
      some (0x09, 0x04, 0x00, 0, .idle, 0xFF) := by decide

theorem test_txByte_low_byte : see (fun t => (t.state, t.txCount, t.sr, t.cnt, t.oe))
    (exec .txByte { launched with sample := 0x8001 }) = some (.ackWait, 1, 0x01, 8, true) := by decide

theorem test_txByte_filler : see (fun t => (t.state, t.txCount, t.sr))
    (exec .txByte { launched with sample := 0x8001, txCount := 2 }) = some (.ackWait, 2, 0xFF) := by decide

theorem test_ackWait : see (fun t => (t.state, t.cnt, t.oe)) (exec .ackWait (engine 0x01 0 true)) =
    some (.ackEval, 1, false) := by decide

theorem test_ackEval_ack : see (fun t => (t.state, t.txCount, t.sr, t.cnt, t.oe))
    (exec .ackEval { launched with sample := 0x8001, txCount := 1, sr := 0x02 }) =
      some (.ackWait, 2, 0x80, 8, true) := by decide

theorem test_ackEval_nack : see (fun t => (t.state, t.txCount, t.direction, t.oe))
    (exec .ackEval { launched with direction := .read, txCount := 2, sr := 0xFF }) =
      some (.idle, 0, .write, false) := by decide

theorem test_abort : see (fun t => (t.state, t.oe, t.rxCount)) (exec .abort (engine 0xFF 0 true)) =
    some (.idle, false, 0) := by decide

/-! ## Invariants hold where a run begins -/

theorem reset_inv : PromptInv State.reset :=
  ⟨by constructor <;> decide, by decide, fun _ _ => ⟨rfl, rfl⟩, by decide⟩

theorem launched_inv : PromptInv launched :=
  ⟨by constructor <;> decide, by decide, fun _ _ => ⟨rfl, rfl⟩, by decide⟩

/-! ## Witnesses: the hypotheses of each statement with hypotheses can be met, each clause at a value of its own -/

/-- A core in a single-shot wait, as spec/95 section 1.4 step 2 leaves it. -/
def waiting : State :=
  { serving .rxEval with wait := true, rxCount := 2, cmd0 := 0xFF, cmd1 := 0x01, sr := 0x01, sc := true }

/-- A core about to execute the command whose opcode it has and whose value has just been shifted in. -/
def commanded (op val : Byte) : State := placeCommand op val launched

theorem serving_free (q : StateId) : FreeInv (serving q) := by constructor <;> cases q <;> decide

theorem waiting_free : FreeInv waiting := by constructor <;> decide

theorem commanded_free (op val : Byte) : FreeInv (commanded op val) := by
  constructor <;> simp [commanded, placeCommand, placeState, launched, bringUpWith, State.reset, cmdLen, txLen, addrBits]

theorem serving_serving (q : StateId) : Serving (serving q) := ⟨rfl, rfl, rfl, rfl, rfl⟩

theorem launched_ready : Ready launched := ⟨rfl, rfl, rfl, rfl⟩

theorem witness_DecodeOfEncodeIsTheInstruction :
    (Instr.ignored 0x00 0x00).wellFormed = true ∧ (Instr.addrmiss 0x4B true).wellFormed = true := by decide

theorem witness_EncodeOfDecodeIsTheBytes :
    decode .cmd [0xFF, 0xFE, 0x16] = .ok (.convstop 127, [0x16]) ∧
    decode .addr [0x19] = .ok (.addrmiss 0x0C true, []) ∧ decode .state [16] = .ok (.abort, []) := ⟨rfl, rfl, rfl⟩

theorem witness_StateIdsAreTheNine :
    ((1 : Byte).toNat % 2 = 1) ∧ ((17 : Byte).toNat % 2 = 1) ∧ 16 < (18 : Byte).toNat := by decide

theorem witness_BringUpComesFirst : State.reset.broughtUp = false := rfl

theorem witness_ClockPulseShiftsTheLineIn : (engine 0x5A 0 false).cnt = 0 ∧ 0 < (engine 0xFF 1 true).cnt := by decide

theorem witness_EightPulsesMoveAByte :
    ((engine 0x00 8 false).cnt = 8 ∧ (engine 0x00 8 false).oe = false) ∧
    ((engine 0xF0 8 true).cnt = 8 ∧ (engine 0xF0 8 true).oe = true) ∧
    ((engine 0x00 1 true).cnt = 1 ∧ (engine 0x00 1 true).oe = true ∧ (engine 0x00 1 true).sr = 0x00) ∧
    ((engine 0xFF 1 true).cnt = 1 ∧ (engine 0xFF 1 true).oe = true ∧ (engine 0xFF 1 true).sr = 0xFF) ∧
    ((engine 0x34 1 false).cnt = 1 ∧ (engine 0x34 1 false).oe = false) := by decide

theorem witness_StepRunsTheDecodedInstruction :
    ((commanded 0xA1 0x04).broughtUp = true ∧ transportEnabled (commanded 0xA1 0x04) = true ∧
      decode .state [stateCode (enterService (commanded 0xA1 0x04)).state] = .ok (.rxEval, [])) ∧
    decode .addr [(commanded 0xA1 0x17).sr] = .ok (.addrr, []) ∧
    ((commanded 0xA1 0x04).rxCount = 1 ∧ (commanded 0xA1 0x04).wait = false ∧
      decode .cmd [(commanded 0xA1 0x04).cmd0, (commanded 0xA1 0x04).sr] = .ok (.wrcch 0x04, [])) :=
  ⟨⟨rfl, rfl, rfl⟩, rfl, rfl, rfl, rfl⟩

theorem witness_StartForcesTheAddressPhase :
    let s := { commanded 0xB0 0x01 with sttifg := true }
    s.broughtUp = true ∧ s.tie = true ∧ s.wait = false ∧ s.sttifg = true := by decide

theorem witness_UnconditionalServiceSteps :
    (Serving (serving .idle) ∧ (serving .idle).state = .idle) ∧
    (Serving (serving .addrCount) ∧ (serving .addrCount).state = .addrCount) ∧
    (Serving (serving .rxByte) ∧ (serving .rxByte).state = .rxByte) ∧
    (Serving (serving .ackWait) ∧ (serving .ackWait).state = .ackWait) ∧
    (Serving (serving .abort) ∧ (serving .abort).state = .abort) :=
  ⟨⟨serving_serving _, rfl⟩, ⟨serving_serving _, rfl⟩, ⟨serving_serving _, rfl⟩, ⟨serving_serving _, rfl⟩,
    serving_serving _, rfl⟩

theorem witness_AddressByteIsMatched :
    (engine 0x16 0 false).sr = 0x16 ∧ (engine 0x17 0 false).sr = 0x17 ∧
    ((engine 0x18 0 false).sr ≠ 0x16 ∧ (engine 0x18 0 false).sr ≠ 0x17) := by decide

theorem witness_ReceivedByteIsStoredAndExecuted :
    (serving .rxEval).rxCount = 0 ∧
    ((commanded 0xB0 0x09).wait = false ∧ (commanded 0xB0 0x09).rxCount = 1 ∧
      decode .cmd [(commanded 0xB0 0x09).cmd0, (commanded 0xB0 0x09).sr] = .ok (.wrinctl 0x09, [])) ∧
    (let s := { serving .rxEval with rxCount := 2 }
     s.wait = false ∧ s.rxCount = 2 ∧ decode .cmd [s.cmd0, s.cmd1] = .ok (.ignored 0x00 0x00, [])) :=
  ⟨rfl, ⟨rfl, rfl, rfl⟩, rfl, rfl, rfl⟩

theorem witness_TransmitPathSendsTheSample :
    (engine 0x68 0 false).sr.getLsbD 0 = false ∧ (engine 0x69 0 false).sr.getLsbD 0 = true := by decide

theorem witness_SuccessorTable :
    (FreeInv (serving .ackEval) ∧ transportEnabled (serving .ackEval) = true ∧ (serving .ackEval).sttifg = false ∧
      ∃ t, transportService (serving .ackEval) = .next t ∧ t.wait = false ∧ t.state = .ackWait) ∧
    (FreeInv (commanded 0xA0 0x00) ∧ transportEnabled (commanded 0xA0 0x00) = true ∧
      ∃ t, transportService (commanded 0xA0 0x00) = .next t ∧ t.wait = false ∧ t.state = .idle) ∧
    (FreeInv (startEvent launched) ∧ transportEnabled (startEvent launched) = true ∧
      (startEvent launched).sttifg = true ∧
      ∃ t, transportService (startEvent launched) = .next t ∧ t.wait = false) :=
  ⟨⟨serving_free _, rfl, rfl, _, rfl, rfl, rfl⟩, ⟨commanded_free _ _, rfl, _, rfl, rfl, rfl⟩,
    by constructor <;> decide, rfl, rfl, _, rfl, rfl⟩

theorem witness_FormatWriteChangesTheFormatBitOnly :
    (0xEF : Byte) &&& launched.params.mDF = launched.ccl &&& launched.params.mDF ∧
    (0x10 : Byte) &&& launched.params.mDF ≠ launched.ccl &&& launched.params.mDF := by decide

theorem witness_ModeWriteRederivesEnableAndRouting :
    (0xE0 : Byte) &&& launched.params.mCfg = launched.cch &&& launched.params.mCfg ∧
    (0x01 : Byte) &&& launched.params.mCfg ≠ launched.cch &&& launched.params.mCfg := by decide

theorem witness_ChannelWriteReplacesAndReroutes : (0x00 : Byte) = launched.inctl ∧ (0x80 : Byte) ≠ launched.inctl := by
  decide

theorem witness_RoutingFollowsChannelAndPolarity :
    launched.params.wellFormed = true ∧
    (∃ e ∈ launched.params.chTable, e.code = launched.inctl &&& launched.params.mInch) ∧
    (let s := { launched with inctl := 0x0B }
     s.params.wellFormed = true ∧ ∀ e ∈ s.params.chTable, e.code ≠ s.inctl &&& s.params.mInch) := by decide

theorem witness_ConfigurationWritesAreIdempotent :
    Instr.wrccl 0x10 = .wrccl 0x10 ∧ Instr.wrcch 0x10 = .wrcch 0x10 ∧ Instr.wrinctl 0x10 = .wrinctl 0x10 :=
  ⟨rfl, rfl, rfl⟩

theorem witness_StartConversionByMode :
    ContinuousMode launched.params 0x04 ∧ ¬ ContinuousMode launched.params 0x1B ∧
    ContinuousMode { launched.params with modeContLevel := false } 0x1B := by
  unfold ContinuousMode
  decide

theorem witness_CommandsLeaveTheTransportAlone : (Instr.convstart 0).format = .cmd := rfl

theorem witness_ServiceStepsLeaveTheConfigurationAlone :
    (Instr.addrCount.format ≠ .cmd ∧ Instr.addrCount ≠ .rxEval) ∧
    (Instr.addrw.format ≠ .cmd ∧ Instr.addrw ≠ .rxEval ∧ Instr.addrw ≠ .addrCount) := by decide

theorem witness_CompletionLatchesTheResult : waiting.sc = true ∧ launched.sc = false := by decide

theorem witness_WaitDoneFinishesTheCommand :
    let s := { waiting with adcifg := true }
    s.broughtUp = true ∧ s.wait = true ∧ s.adcifg = true := by decide

theorem witness_CompletionInterruptCopiesTheResult :
    let s := { launched with ie := true, adcifg := true }
    s.broughtUp = true ∧ adcEnabled s = true ∧ transportEnabled s = false := by decide

theorem witness_OnlyACompletionEndsAWait :
    (waiting.broughtUp = true ∧ waiting.wait = true ∧ step waiting = .next waiting ∧ waiting.adcifg = false ∧
      waiting.events = []) ∧
    (let s := { waiting with adcifg := true }
     s.broughtUp = true ∧ s.wait = true ∧ ∃ t, step s = .next t ∧ t.wait = false) :=
  ⟨⟨rfl, rfl, rfl, rfl, rfl⟩, rfl, rfl, _, rfl, rfl⟩

theorem witness_WaitingCoreIsDeafToTheBus : FreeInv waiting ∧ waiting.wait = true := ⟨waiting_free, rfl⟩

theorem witness_EventsWaitForQuiescence :
    (enabledStep (serving .abort) = some .transport ∧ ∃ t, step (serving .abort) = .next t) ∧
    (let s := { launched with events := [.clock true, .stop] }
     s.broughtUp = true ∧ Quiescent s ∧ s.events = .clock true :: [.stop]) ∧
    (launched.broughtUp = true ∧ Quiescent launched ∧ launched.events = []) :=
  ⟨⟨rfl, _, rfl⟩, ⟨rfl, rfl, rfl⟩, rfl, rfl, rfl⟩

/-- A core on which both services are due, the transport service for state `q`. -/
def bothDue (q : StateId) : State := { serving q with ie := true, adcifg := true }

theorem witness_ServicesCommute :
    (transportEnabled (bothDue .ackWait) = true ∧ adcEnabled (bothDue .ackWait) = true ∧
      (bothDue .ackWait).state ≠ .rxEval ∧ (bothDue .ackWait).state ≠ .txByte ∧
      (bothDue .ackWait).state ≠ .ackEval) ∧
    (let s := { bothDue .txByte with sttifg := true }
     transportEnabled s = true ∧ adcEnabled s = true ∧ s.sttifg = true) ∧
    (let s := bothDue .rxEval
     transportEnabled s = true ∧ adcEnabled s = true ∧ s.state = .rxEval ∧ s.rxCount ≠ 1 ∧ s.rxCount ≠ 2) ∧
    (let s := { bothDue .ackEval with sr := 0x69 }
     transportEnabled s = true ∧ adcEnabled s = true ∧ s.state = .ackEval ∧ s.sr.getLsbD 0 = true) := by
  decide

theorem witness_ServicesAreNeverDueTogether :
    OneServiceDue (serving .txByte) ∧ (∃ t, step (serving .txByte) = .next t) ∧
    OneServiceDue { launched with ie := true, sc := true, events := [.adcComplete 0x1234] } :=
  ⟨⟨by decide, by decide⟩, ⟨_, rfl⟩, by decide, by decide⟩

theorem witness_EveryStepKeepsTheInvariant :
    PromptInv (serving .txByte) ∧ ∃ t, step (serving .txByte) = .next t ∧ t.state = .ackWait :=
  ⟨⟨serving_free _, by decide, fun _ h => absurd h (by decide), by decide⟩, _, rfl, rfl⟩

theorem witness_InvariantGivesTheSpecsList : PromptInv launched ∧ Quiescent launched := ⟨launched_inv, rfl⟩

theorem witness_FreeInvariantSurvivesDelayedServices :
    FreeInv (serving .rxEval) ∧ (∃ t, FreeStep (serving .rxEval) t) ∧
    FreeStep (serving .rxEval) { serving .rxEval with sttifg := true } :=
  ⟨serving_free _, ⟨_, .transport rfl rfl⟩, .event .start rfl⟩

theorem witness_StepIsAMoveOfTheWeakerDiscipline :
    (∃ t, step State.reset = .next t) ∧ step launched = .next launched ∧
    (∃ t, step { launched with events := [.start] } = .next t ∧ t.sttifg = true) :=
  ⟨⟨_, rfl⟩, rfl, _, rfl, rfl⟩

theorem witness_UnnamedBitsNeverChange :
    (commanded 0xA0 0xFF).broughtUp = true ∧
    ∃ t, step (commanded 0xA0 0xFF) = .next t ∧ t.ccl = 0x10 := ⟨rfl, _, rfl, rfl⟩

theorem witness_SampleIsWrittenOnlyByTheCopies :
    let s := { launched with ie := true, adcifg := true, adcres := 0xFFFE }
    s.broughtUp = true ∧ s.adcifg = true ∧ ∃ t, step s = .next t ∧ t.sample ≠ s.sample ∧ t.adcifg = false :=
  ⟨rfl, rfl, _, rfl, by decide, rfl⟩

theorem witness_ConfigurationIsWrittenOnlyByCommands :
    (FreeInv (commanded 0xA1 0x1F) ∧ (commanded 0xA1 0x1F).broughtUp = true ∧
      ∃ t, step (commanded 0xA1 0x1F) = .next t ∧ t.cch ≠ (commanded 0xA1 0x1F).cch ∧
        t.ie ≠ (commanded 0xA1 0x1F).ie ∧ t.ae ≠ (commanded 0xA1 0x1F).ae) ∧
    (∃ t, step (commanded 0xA0 0x10) = .next t ∧ t.ccl ≠ (commanded 0xA0 0x10).ccl) ∧
    (∃ t, step (commanded 0xB0 0x01) = .next t ∧ t.inctl ≠ (commanded 0xB0 0x01).inctl) :=
  ⟨⟨commanded_free _ _, rfl, _, rfl, by decide, by decide, by decide⟩, ⟨_, rfl, by decide⟩, _, rfl, by decide⟩

theorem witness_StartFlagIsClearedOnlyByAddrCount :
    (∃ t, step { launched with events := [.start] } = .next t ∧ launched.sttifg = false ∧ t.sttifg = true) ∧
    (∃ t, step (startEvent launched) = .next t ∧ (startEvent launched).sttifg = true ∧ t.sttifg = false) :=
  ⟨⟨_, rfl, rfl, rfl⟩, _, rfl, rfl, rfl⟩

theorem witness_StoppedConverterNeverUpdatesTheSample :
    FreeInv (commanded 0xFF 0x01) ∧ (commanded 0xFF 0x01).broughtUp = true ∧ Stopped (commanded 0xFF 0x01) ∧
    ∃ t, step (commanded 0xFF 0x01) = .next t ∧ t.sc = true :=
  ⟨commanded_free _ _, rfl, ⟨rfl, rfl, rfl⟩, _, rfl, rfl⟩

theorem witness_WriteTransactionExecutesItsCommand :
    Ready launched ∧ decode .cmd [0xFF, 0x01] = .ok (.convstart 0, []) ∧
    Ready { launched with adcifg := true, sc := true } := ⟨launched_ready, rfl, rfl, rfl, rfl, rfl⟩

theorem witness_ForeignAddressIsDeclined : Ready launched ∧ (0x18 : Byte) ≠ 0x16 ∧ (0x18 : Byte) ≠ 0x17 :=
  ⟨launched_ready, by decide, by decide⟩

theorem witness_ReadTransactionReturnsTheReadWindow : Ready { launched with state := .rxEval, cnt := 5, rxCount := 1 } :=
  ⟨rfl, rfl, rfl, rfl⟩

theorem witness_TornReadMixesTwoSamples :
    let s := { launched with cch := 0x04, ie := true, sc := true, sample := 0x0303 }
    (0 : Nat) ≤ 8 ∧ (8 : Nat) ≤ 8 ∧ Ready s ∧ s.sc = true ∧ s.ie = true ∧ ContinuousMode s.params s.cch :=
  ⟨by decide, by decide, ⟨rfl, rfl, rfl, rfl⟩, rfl, rfl, by unfold ContinuousMode; decide⟩

end Sys2Proof.Tests
end

section
/-!
SUPPORT. The bits a row of the opcode table matches on, as the fields the decoder compares (spec/30_encoding.md R91,
R93, R97), and the bytes that are no state id (R102).
-/

namespace Sys2Proof

/-! ## Formats CMD and ADDR -/

/-- A masked match on a word of two fields is a masked match on each field. -/
theorem and_append_eq_append_iff {m n : Nat} (w : BitVec (m + n)) (hiMask hi : BitVec m) (loMask lo : BitVec n) :
    w &&& (hiMask ++ loMask) = hi ++ lo ↔ w.extractLsb' n m &&& hiMask = hi ∧ w.extractLsb' 0 n &&& loMask = lo := by
  have hw : w &&& (hiMask ++ loMask) = (w.extractLsb' n m &&& hiMask) ++ (w.extractLsb' 0 n &&& loMask) := by
    rw [← BitVec.and_append, BitVec.extractLsb'_append_extractLsb']
  rw [hw]
  constructor
  · intro h
    have hHi := congrArg (BitVec.extractLsb' n m) h
    have hLo := congrArg (BitVec.extractLsb' 0 n) h
    simp only [BitVec.extractLsb'_append_eq_left] at hHi
    simp only [BitVec.extractLsb'_append_eq_right] at hLo
    exact ⟨hHi, hLo⟩
  · rintro ⟨rfl, rfl⟩
    rfl

/-- Bit 0 of a value alone decides a row that fixes it (R96). -/
theorem and_one_eq_iff_bitZero (v : Byte) (b : Level) :
    v &&& 1 = (BitVec.ofBool b).setWidth 8 ↔ bitZero v = b := by
  have hv : v &&& 1 = (BitVec.ofBool (bitZero v)).setWidth 8 := BitVec.and_one_eq_setWidth_ofBool_getLsbD
  rw [hv]
  cases bitZero v <;> cases b <;> decide

/-- A row that fixes bits 15:8 of `cmd16` names an opcode and leaves the value open (R93, R97). -/
theorem opcodeRow_iff (w : BitVec 16) (op : Byte) :
    w &&& 0xFF00 = op ++ 0#8 ↔ w.extractLsb' 8 8 = op := by
  have h : w &&& 0xFF00 = op ++ 0#8 ↔ _ := and_append_eq_append_iff (n := 8) w (BitVec.allOnes 8) op 0#8 0#8
  simpa only [BitVec.and_allOnes, BitVec.and_zero, and_true] using h

/-- A row that fixes bits 15:8 and bit 0 of `cmd16` names an opcode and the start bit of its value (R96, R97). -/
theorem opcodeAndStartRow_iff (w : BitVec 16) (op : Byte) (start : Level) :
    w &&& 0xFF01 = op ++ (BitVec.ofBool start).setWidth 8 ↔
      w.extractLsb' 8 8 = op ∧ bitZero (w.extractLsb' 0 8) = start := by
  have h : w &&& 0xFF01 = op ++ (BitVec.ofBool start).setWidth 8 ↔ _ :=
    and_append_eq_append_iff (n := 8) w (BitVec.allOnes 8) op 1 _
  rwa [BitVec.and_allOnes, and_one_eq_iff_bitZero] at h

/-- Bits 7:1 of the value are bits 7:1 of `cmd16` (R96). -/
theorem highSeven_extractLsb'_zero (w : BitVec 16) : highSeven (w.extractLsb' 0 8) = w.extractLsb' 1 7 := by
  apply BitVec.eq_of_getLsbD_eq
  intro k hk
  simp [highSeven, hk]

/-- Format CMD decides by the rows of the opcode map, in their order (R97). -/
theorem decodeCommand_eq_rows (w : BitVec 16) :
    decodeCommand (w.extractLsb' 8 8) (w.extractLsb' 0 8) =
      if w &&& 0xFF00 = 0xA000 then .wrccl (w.extractLsb' 0 8)
      else if w &&& 0xFF00 = 0xA100 then .wrcch (w.extractLsb' 0 8)
      else if w &&& 0xFF00 = 0xB000 then .wrinctl (w.extractLsb' 0 8)
      else if w &&& 0xFF01 = 0xFF01 then .convstart (w.extractLsb' 1 7)
      else if w &&& 0xFF01 = 0xFF00 then .convstop (w.extractLsb' 1 7)
      else .ignored (w.extractLsb' 8 8) (w.extractLsb' 0 8) := by
  have hCcl : w &&& 0xFF00 = 0xA000 ↔ _ := opcodeRow_iff w opCcl
  have hCch : w &&& 0xFF00 = 0xA100 ↔ _ := opcodeRow_iff w opCch
  have hInctl : w &&& 0xFF00 = 0xB000 ↔ _ := opcodeRow_iff w opInctl
  have hStart : w &&& 0xFF01 = 0xFF01 ↔ _ := opcodeAndStartRow_iff w opConv true
  have hStop : w &&& 0xFF01 = 0xFF00 ↔ _ := opcodeAndStartRow_iff w opConv false
  simp only [decodeCommand, hCcl, hCch, hInctl, hStart, hStop, highSeven_extractLsb'_zero]
  by_cases hConv : w.extractLsb' 8 8 = opConv
  · cases bitZero (w.extractLsb' 0 8) <;> simp [hConv]
  · simp [hConv]

/-- Settles O3: each masked match of R97 is the comparison of fields the decoder makes. -/
theorem decoderFollowsTheOpcodeMap : Obligations.DecoderFollowsTheOpcodeMap := by
  unfold Obligations.DecoderFollowsTheOpcodeMap
  refine ⟨fun w => ?_, fun b => ?_⟩
  · rw [← decodeCommand_eq_rows]
    rfl
  · have hMask : b &&& 0xFF = b := BitVec.and_allOnes
    rw [hMask, ← addressByte_own_write, ← addressByte_own_read]
    rfl

/-! ## Format STATE -/

/-- Every state id is even and at most 16 (R102). -/
theorem stateCode_even_le (q : Machine.StateId) :
    (Machine.stateCode q).toNat % 2 = 0 ∧ (Machine.stateCode q).toNat ≤ 16 := by
  cases q <;> decide

/-- The decoder reads the id of a state as the service step of that state (R102, R140). -/
theorem decodeStateId_stateCode (q : Machine.StateId) :
    decodeStateId (Machine.stateCode q) = .ok (Machine.stateInstr q) := by
  cases q <;> rfl

/-- A byte that is the id of no state is rejected by name (R102). -/
theorem decodeStateId_of_ne_stateCode (b : Byte) (h : ∀ q, b ≠ Machine.stateCode q) :
    decodeStateId b = .error (.notAState b) := by
  unfold decodeStateId
  rw [if_neg (show b ≠ 0 from h .idle), if_neg (show b ≠ 2 from h .addrCount), if_neg (show b ≠ 4 from h .addrMatch),
    if_neg (show b ≠ 6 from h .rxByte), if_neg (show b ≠ 8 from h .rxEval), if_neg (show b ≠ 10 from h .txByte),
    if_neg (show b ≠ 12 from h .ackWait), if_neg (show b ≠ 14 from h .ackEval), if_neg (show b ≠ 16 from h .abort)]

/-- Settles O4: the nine ids by the decoder's row of each, the refusals because every state id is even and at most
16. -/
theorem stateIdsAreTheNine : Obligations.StateIdsAreTheNine := by
  unfold Obligations.StateIdsAreTheNine
  have hId (q : Machine.StateId) : decode .state [Machine.stateCode q] = .ok (Machine.stateInstr q, []) := by
    simp only [decode, decodeStateId_stateCode, Except.map]
  refine ⟨hId .idle, hId .addrCount, hId .addrMatch, hId .rxByte, hId .rxEval, hId .txByte, hId .ackWait,
    hId .ackEval, hId .abort, fun b hb => ?_⟩
  have hNoId (q : Machine.StateId) : b ≠ Machine.stateCode q := by
    rintro rfl
    obtain ⟨heven, hle⟩ := stateCode_even_le q
    omega
  simp only [decode, decodeStateId_of_ne_stateCode b hNoId, Except.map]

end Sys2Proof
end

section
/-!
SUPPORT. The line level and one left shift read bit by bit, and the events of the shift engine (spec/40_shift_engine.md
R121, R122, R124, R125).
-/

namespace Sys2Proof

open Sys2Proof.Machine

/-- The line is low exactly if one of the two pulls it low (R121). -/
theorem lineLevel_eq_false_iff (m : Level) (s : State) :
    lineLevel m s = false ↔ m = false ∨ (s.oe = true ∧ s.sr.getLsbD 7 = false) := by
  simp only [lineLevel_eq_and, Bool.and_eq_false_iff, Bool.not_eq_false', Bool.and_eq_true, Bool.not_eq_true']

/-- The level enters at bit 0 (R122). -/
theorem shiftIn_getLsbD_zero (sr : Byte) (l : Level) : (shiftIn sr l).getLsbD 0 = l := by
  rw [shiftIn_getLsbD sr l 0 (by decide), if_pos rfl]

/-- Every other bit moves up by one (R122). -/
theorem shiftIn_getLsbD_succ (sr : Byte) (l : Level) {k : Nat} (hk : k < 7) :
    (shiftIn sr l).getLsbD (k + 1) = sr.getLsbD k := by
  rw [shiftIn_getLsbD sr l (k + 1) (by omega), if_neg (Nat.succ_ne_zero k), Nat.add_sub_cancel]

/-- Settles O8: the frame and the level hold of every pulse; the two cases of R122 are a pulse with nothing armed and
one that shifts. -/
theorem clockPulseShiftsTheLineIn : Obligations.ClockPulseShiftsTheLineIn := by
  unfold Obligations.ClockPulseShiftsTheLineIn
  intro m s
  refine ⟨clockEvent m s, rfl, lineLevel m s, clockEvent_frame m s, lineLevel_eq_false_iff m s,
    fun hIdle => ?_, fun hArmed => ?_⟩
  · rw [clockEvent_idle m s hIdle]
    exact ⟨rfl, hIdle, rfl⟩
  · rw [clockEvent_shifting m s hArmed]
    refine ⟨shiftIn_getLsbD_zero _ _, fun k hk => shiftIn_getLsbD_succ _ _ hk, Nat.sub_add_cancel hArmed, ?_⟩
    by_cases hLast : s.cnt - 1 = 0 <;> simp [hLast]

/-- Settles O10: both events are the whole next state their rules write (R124, R125). -/
theorem startSetsTheFlagAndStopNothing : Obligations.StartSetsTheFlagAndStopNothing := by
  unfold Obligations.StartSetsTheFlagAndStopNothing
  intro s
  exact ⟨rfl, rfl⟩

end Sys2Proof
end

section
/-!
SUPPORT. The address phase and the unconditional service steps (spec/41_transport_fsm.md R140 to R145, R149, R154): when
the next step is a transport service, what a service that completes leaves, and the class of a byte that names another
device.
-/

namespace Sys2Proof

open Sys2Proof.Machine Sys2Proof.Safety

/-! ## The step that is a transport service -/

/-- A due transport service is the next step, before the completion interrupt and before any event (R14). -/
theorem step_eq_transportService {s : State} (hUp : s.broughtUp = true) (hDue : transportEnabled s = true) :
    step s = transportService s :=
  step_internal hUp (enabledStep_transport.2 hDue)

/-- A pending start makes the transport service due, whatever `CNTIFG` is (R217). -/
theorem transportEnabled_of_start {s : State} (hTie : s.tie = true) (hWait : s.wait = false) (hStart : s.sttifg = true) :
    transportEnabled s = true := by
  simp [transportEnabled, hTie, hWait, hStart]

/-- Settles O12: the pending start makes the transport service the next step, and the service enters through
`StartEntry`. -/
theorem startForcesTheAddressPhase : Obligations.StartForcesTheAddressPhase := by
  unfold Obligations.StartForcesTheAddressPhase
  intro s hUp hTie hWait hStart
  rw [step_eq_transportService hUp (transportEnabled_of_start hTie hWait hStart)]
  exact transportService_start hStart hWait

/-- A service step that begins no wait is followed by the clearing of `CNTIFG` (R140). -/
theorem step_serving_of_exec {s u : State} {q : StateId} (h : Serving s) (hState : s.state = q)
    (hExec : exec (stateInstr q) s = .next u) (hWait : u.wait = false) :
    step s = .next { u with cntifg := false } := by
  rw [step_serving h, hState, hExec, mapNext, endService_running u hWait]

/-- `Idle` in its own state changes nothing (R144). -/
theorem exec_idle_of_idle {s : State} (h : s.state = .idle) : exec .idle s = .next s := by
  show Host.Outcome.next { s with state := .idle } = .next s
  rw [← h]

/-- Settles O13: each step alone is its rule's update; none of the five touches `WAIT`, so each service is the same
update with `CNTIFG` cleared. -/
theorem unconditionalServiceSteps : Obligations.UnconditionalServiceSteps := by
  unfold Obligations.UnconditionalServiceSteps
  intro s
  exact ⟨rfl, rfl, rfl, rfl, rfl, fun h =>
    ⟨fun hq => step_serving_of_exec h hq (exec_idle_of_idle hq) h.idle,
      fun hq => step_serving_of_exec h hq rfl h.idle,
      fun hq => step_serving_of_exec h hq rfl h.idle,
      fun hq => step_serving_of_exec h hq rfl h.idle,
      fun hq => step_serving_of_exec h hq rfl h.idle⟩⟩

/-! ## The class of an address byte -/

/-- A byte other than the core's two is another device's address (R143). -/
theorem decodeAddress_of_foreign {b : Byte} (hWrite : b ≠ 0x16) (hRead : b ≠ 0x17) :
    decodeAddress b = .addrmiss (highSeven b) (bitZero b) := by
  rw [decodeAddress, addressByte_own_write, addressByte_own_read, if_neg hWrite, if_neg hRead]

/-- Settles O14: `AddrMatch` is the meaning of the class its byte decodes to, and each class is its whole update. -/
theorem addressByteIsMatched : Obligations.AddressByteIsMatched := by
  unfold Obligations.AddressByteIsMatched
  intro s
  rw [exec_addrMatch]
  refine ⟨fun hWrite => ?_, fun hRead => ?_, fun hWrite hRead => ?_⟩
  · rw [hWrite, ← addressByte_own_write, decodeAddress_addressByte]
    rfl
  · rw [hRead, ← addressByte_own_read, decodeAddress_addressByte]
    rfl
  · rw [decodeAddress_of_foreign hWrite hRead]
    rfl

end Sys2Proof
end

section
/-!
SUPPORT. The transmit path (spec/41_transport_fsm.md R148, R151, R152): a load takes the byte of the read window at
`txCount`, and the read window holds the two bytes of the sample and then the filler (spec/20_memory.md R62, R70).
-/

namespace Sys2Proof

open Sys2Proof.Machine

/-- The read window is the low byte of `SAMPLE`, its high byte, and the filler at every later offset (R62, R70). -/
theorem readWindow_eq (off : Nat) (s : State) :
    readWindow off s = if off = 0 then BitVec.ofNat 8 s.sample.toNat
      else if off = 1 then BitVec.ofNat 8 (s.sample.toNat / 256) else 0xFF := by
  match off with
  | 0 => exact txFetch_low s
  | 1 => exact txFetch_high s
  | n + 2 => simp [readWindow, txLen, filler]

/-- `TxLoad` arms out the byte of the read window at `txCount`, and counts while sample bytes remain (R152). -/
theorem txLoad_eq (s : State) :
    txLoad s = { s with
      sr := readWindow s.txCount s
      txCount := if s.txCount < 2 then s.txCount + 1 else s.txCount
      oe := true
      cnt := 8
      state := .ackWait } := by
  by_cases h : s.txCount < txLen
  · have hCount : s.txCount < 2 := h
    simp only [txLoad, readWindow, if_pos h, if_pos hCount]
    rfl
  · have hCount : ¬ s.txCount < 2 := h
    simp only [txLoad, readWindow, if_neg h, if_neg hCount]
    rfl

/-- An acknowledged `AckEval` loads the next byte (R151). -/
theorem exec_ackEval_of_ack {s : State} (h : bitZero s.sr = false) : exec .ackEval s = .next (txLoad s) := by
  simp [exec, execAckEval, h]

/-- A declined `AckEval` ends the read (R151). -/
theorem exec_ackEval_of_nack {s : State} (h : bitZero s.sr = true) :
    exec .ackEval s = .next (goto .idle (ctxReset (release s))) := by
  simp [exec, execAckEval, h]

/-- Settles O17: states 10 and 14 share `TxLoad`, which sends the read window; bit 0 of `SR` decides in state 14. -/
theorem transmitPathSendsTheSample : Obligations.TransmitPathSendsTheSample := by
  unfold Obligations.TransmitPathSendsTheSample
  intro s loaded
  have hLoaded : txLoad s = loaded := by rw [txLoad_eq, readWindow_eq]
  refine ⟨?_, fun hAck => ?_, fun hNack => ?_⟩
  · exact congrArg Host.Outcome.next hLoaded
  · rw [exec_ackEval_of_ack hAck, hLoaded]
  · exact exec_ackEval_of_nack hNack

end Sys2Proof
end

section
/-!
SUPPORT. The register protocol layer (spec/42_register_protocol.md R171, R172, R173, R176): what each configuration write
answers, and the routing of a supported and of an unsupported channel.
-/

namespace Sys2Proof

open Sys2Proof.Machine Sys2Proof.Safety

/-! ## The analog routing -/

/-- R7: the codes of the channel table are distinct. -/
theorem chTable_codes_nodup {p : Params} (h : p.wellFormed = true) : (p.chTable.map Channel.code).Nodup := by
  simp only [Params.wellFormed, Bool.and_eq_true, decide_eq_true_eq] at h
  obtain ⟨⟨_, hNodup⟩, _⟩ := h
  exact hNodup

/-- Distinct codes make the lookup of a table entry's code find that entry, wherever it stands in the table (R176). -/
theorem lookupChannel_code {p : Params} {e : Channel} (hCodes : (p.chTable.map Channel.code).Nodup)
    (he : e ∈ p.chTable) : lookupChannel p e.code = some e := by
  cases hFound : lookupChannel p e.code with
  | none => simpa using List.find?_eq_none.1 hFound e he
  | some e' =>
    have hMem : e' ∈ p.chTable := List.mem_of_find?_eq_some hFound
    have hCode : e'.code = e.code := by simpa using List.find?_some hFound
    rw [List.inj_on_of_nodup_map hCodes hMem he hCode]

/-- No entry is found exactly for the code of an unsupported channel (R176). -/
theorem lookupChannel_eq_none_iff (p : Params) (ch : Byte) :
    lookupChannel p ch = none ↔ ∀ e ∈ p.chTable, e.code ≠ ch := by
  simp [lookupChannel]

theorem isUni_iff (p : Params) (c : Byte) : isUni p c = true ↔ c &&& p.mUni ≠ 0 := by
  simp [isUni]

theorem routing_of_supported {p : Params} {cch inctl : Byte} {e : Channel}
    (h : lookupChannel p (inctl &&& p.mInch) = some e) :
    routing p cch inctl = if cch &&& p.mUni ≠ 0 then e.pinP else e.pinP ||| e.pinN := by
  simp only [routing, h, isUni_iff]

theorem routing_of_unsupported {p : Params} {cch inctl : Byte} (h : lookupChannel p (inctl &&& p.mInch) = none) :
    routing p cch inctl = 0x00 := by
  simp only [routing, h]

/-- Settles O22: the selected code finds its own entry because the codes are distinct, and finds none when no entry
has it. -/
theorem routingFollowsChannelAndPolarity : Obligations.RoutingFollowsChannelAndPolarity := by
  unfold Obligations.RoutingFollowsChannelAndPolarity
  intro s hParams
  refine ⟨fun e he hSelected => ?_, fun hUnsupported => ?_⟩
  · have hFound := lookupChannel_code (chTable_codes_nodup hParams) he
    rw [hSelected] at hFound
    rw [reroute, routing_of_supported hFound]
  · rw [reroute, routing_of_unsupported ((lookupChannel_eq_none_iff _ _).2 hUnsupported)]

/-! ## The configuration writes -/

/-- `WRCCL` answers `CCL` with the bits under `M_DF` taken from the value (R171). -/
theorem exec_wrccl (v : Byte) (s : State) :
    exec (.wrccl v) s = .next { s with ccl := mergeBits s.params.mDF s.ccl v } :=
  congrArg Host.Outcome.next (rerouteIfChanged_writeCcl v s)

/-- Settles O19: the masked write is the whole effect, and it is the identity when the masked bits agree. -/
theorem formatWriteChangesTheFormatBitOnly : Obligations.FormatWriteChangesTheFormatBitOnly := by
  unfold Obligations.FormatWriteChangesTheFormatBitOnly
  intro s v
  refine ⟨_, exec_wrccl v s, rfl, fun k hk => mergeBits_getLsbD _ _ _ k hk, fun hSame => ?_⟩
  rw [mergeBits_of_masked_eq _ _ _ hSame]

/-- Settles O20: equal masked bits leave the state; any change of them is the masked write with `IE` and `AE` derived
from what it wrote. -/
theorem modeWriteRederivesEnableAndRouting : Obligations.ModeWriteRederivesEnableAndRouting := by
  unfold Obligations.ModeWriteRederivesEnableAndRouting
  intro s v
  refine ⟨rerouteIfChanged (writeCch v s), rfl, rerouteIfChanged_writeCch_same v s, fun hChanged => ?_⟩
  rw [rerouteIfChanged_writeCch_changed v s hChanged]
  exact ⟨rfl, fun k hk => mergeBits_getLsbD _ _ _ k hk, isCont_iff _ _⟩

/-- Settles O21: equal bytes leave the state; a different one is stored whole and the routing derived from it. -/
theorem channelWriteReplacesAndReroutes : Obligations.ChannelWriteReplacesAndReroutes := by
  unfold Obligations.ChannelWriteReplacesAndReroutes
  intro s v
  refine ⟨rerouteIfChanged (writeInctl v s), rfl, ?_, rerouteIfChanged_writeInctl_changed v s⟩
  rintro rfl
  exact rerouteIfChanged_writeInctl_same s

end Sys2Proof
end

section
/-!
SUPPORT. The ADC controller (spec/43_adc_controller.md R191 to R194, R196): the start of a conversion in each mode, the
stop, and the step that ends a single-shot wait.
-/

namespace Sys2Proof

open Sys2Proof.Machine Sys2Proof.Safety

/-! ## Start and stop -/

/-- The continuous path (R192). -/
theorem startConversion_of_continuous {s : State} (h : ContinuousMode s.params s.cch) :
    startConversion s = { s with sc := true, txsel := .selSample } :=
  if_neg (mt (isSingle_iff _ _).1 (not_not_intro h))

/-- The beginning of the single-shot path (R193). -/
theorem startConversion_of_singleShot {s : State} (h : ¬ ContinuousMode s.params s.cch) :
    startConversion s = { s with sc := true, wait := true } :=
  if_pos ((isSingle_iff _ _).2 h)

/-- Settles O24: `CONVSTART` starts a conversion whatever its ignored bits, by the path of the mode in `CCH`. -/
theorem startConversionByMode : Obligations.StartConversionByMode := by
  unfold Obligations.StartConversionByMode
  intro s ign
  have hStart : exec (.convstart ign) s = .next (startConversion s) := rfl
  rw [hStart]
  refine ⟨fun hContinuous => ?_, fun hSingleShot => ?_⟩
  · rw [startConversion_of_continuous hContinuous]
  · rw [startConversion_of_singleShot hSingleShot]

/-- Settles O25: the stop is its rule's whole update (R194), and an ignored opcode answers the state it got (R175). -/
theorem stopConversionAndIgnoredOpcodes : Obligations.StopConversionAndIgnoredOpcodes := by
  unfold Obligations.StopConversionAndIgnoredOpcodes
  intro s ign op v
  exact ⟨rfl, rfl⟩

/-! ## The end of the wait -/

/-- A flagged result during a wait makes `WaitDone` the next step, before any service and any event (R14, R196). -/
theorem step_eq_waitDone {s : State} (hUp : s.broughtUp = true) (hDue : waitDoneEnabled s = true) :
    step s = .next (waitDone s) :=
  step_internal hUp (enabledStep_waitDone.2 hDue)

/-- Settles O30: the next step is `WaitDone`, whose whole update is the copy and the rest of the suspended step. -/
theorem waitDoneFinishesTheCommand : Obligations.WaitDoneFinishesTheCommand := by
  unfold Obligations.WaitDoneFinishesTheCommand
  intro s hUp hWait hFlag
  have hDue : waitDoneEnabled s = true := by rw [waitDoneEnabled, hWait, hFlag, Bool.and_self]
  rw [step_eq_waitDone hUp hDue]
  rfl

end Sys2Proof
end

section
/-!
SUPPORT. The decoder and the encoder are inverse to each other (spec/30_encoding.md R91, R93, R97, R102): format by
format, what the decoder answers for encoded bytes, and what is encoded by what it answers.
-/

namespace Sys2Proof

/-! ## Format CMD -/

/-- An opcode without a row of its own is none of the four that have one (R98). -/
theorem definedOpcode_eq_false_iff (op : Byte) :
    definedOpcode op = false ↔ op ≠ opCcl ∧ op ≠ opCch ∧ op ≠ opInctl ∧ op ≠ opConv := by
  simp [definedOpcode, and_assoc]

theorem decodeCommand_ignored {op : Byte} (val : Byte) (h : definedOpcode op = false) :
    decodeCommand op val = .ignored op val := by
  obtain ⟨hCcl, hCch, hInctl, hConv⟩ := (definedOpcode_eq_false_iff op).1 h
  simp [decodeCommand, hCcl, hCch, hInctl, hConv]

/-- A conversion command is read by bit 0 of its value, whatever the other bits are (R96). -/
theorem decodeCommand_conversion (ign : BitVec 7) (start : Level) :
    decodeCommand opConv (conversionValue ign start) = if start then .convstart ign else .convstop ign := by
  simp [decodeCommand, conversionValue, opConv, opCcl, opCch, opInctl]

/-- The inversion of format CMD: the instruction of a command is well formed and encodes to its two bytes. -/
theorem decodeCommand_sound (op val : Byte) :
    (decodeCommand op val).wellFormed = true ∧ (decodeCommand op val).format = .cmd ∧
      encode (decodeCommand op val) = [op, val] := by
  unfold decodeCommand
  split_ifs with hCcl hCch hInctl hConv hStart
  · exact ⟨rfl, rfl, by rw [hCcl]; rfl⟩
  · exact ⟨rfl, rfl, by rw [hCch]; rfl⟩
  · exact ⟨rfl, rfl, by rw [hInctl]; rfl⟩
  · exact ⟨rfl, rfl, by rw [encode, conversionValue, ← hStart, joinBit_fields, hConv]⟩
  · exact ⟨rfl, rfl, by rw [encode, conversionValue, ← Bool.eq_false_of_not_eq_true hStart, joinBit_fields, hConv]⟩
  · exact ⟨by simpa [Instr.wellFormed] using (definedOpcode_eq_false_iff op).2 ⟨hCcl, hCch, hInctl, hConv⟩, rfl, rfl⟩

/-! ## Formats ADDR and STATE -/

/-- The inversion of format ADDR. -/
theorem decodeAddress_sound (b : Byte) :
    (decodeAddress b).wellFormed = true ∧ (decodeAddress b).format = .addr ∧ encode (decodeAddress b) = [b] := by
  obtain ⟨a, rw, rfl⟩ : ∃ a rw, b = addressByte a rw := ⟨highSeven b, bitZero b, (joinBit_fields b).symm⟩
  rw [decodeAddress_addressByte]
  split_ifs with hOwn hRead
  · exact ⟨rfl, rfl, by rw [hOwn, hRead]; rfl⟩
  · exact ⟨rfl, rfl, by rw [hOwn, Bool.eq_false_of_not_eq_true hRead]; rfl⟩
  · exact ⟨by simpa [Instr.wellFormed] using hOwn, rfl, rfl⟩

/-- The decoder answers for a byte exactly if it is the id of a state (R102). -/
theorem decodeStateId_eq_ok {id : Byte} {i : Instr} (h : decodeStateId id = .ok i) :
    ∃ q, id = Machine.stateCode q ∧ i = Machine.stateInstr q := by
  by_cases hId : ∃ q, id = Machine.stateCode q
  · obtain ⟨q, rfl⟩ := hId
    rw [decodeStateId_stateCode] at h
    exact ⟨q, rfl, (Except.ok.inj h).symm⟩
  · rw [decodeStateId_of_ne_stateCode id (not_exists.1 hId)] at h
    cases h

/-- The service step of a state is well formed, of format STATE, and encodes to its id (R102). -/
theorem encode_stateInstr (q : Machine.StateId) :
    (Machine.stateInstr q).wellFormed = true ∧ (Machine.stateInstr q).format = .state ∧
      encode (Machine.stateInstr q) = [Machine.stateCode q] := by
  cases q <;> exact ⟨rfl, rfl, rfl⟩

/-! ## The three formats together -/

/-- Settles O1: a row without a condition decodes by computation; the conversion commands, the two catch-all rows and
the address byte by their lemmas. -/
theorem decodeOfEncodeIsTheInstruction : Obligations.DecodeOfEncodeIsTheInstruction := by
  unfold Obligations.DecodeOfEncodeIsTheInstruction
  intro i rest hWf
  have hCommand {op val : Byte} {j : Instr} (h : decodeCommand op val = j) :
      decode .cmd ([op, val] ++ rest) = .ok (j, rest) := congrArg (fun k => Except.ok (k, rest)) h
  cases i with
  | convstart ign => exact hCommand (decodeCommand_conversion ign true)
  | convstop ign => exact hCommand (decodeCommand_conversion ign false)
  | ignored op val => exact hCommand (decodeCommand_ignored val (by simpa [Instr.wellFormed] using hWf))
  | addrmiss addr7 rw =>
    have hForeign : addr7 ≠ slaveAddr := by simpa [Instr.wellFormed] using hWf
    have hDecode : decodeAddress (addressByte addr7 rw) = .addrmiss addr7 rw := by
      rw [decodeAddress_addressByte, if_neg hForeign]
    exact congrArg (fun k => Except.ok (k, rest)) hDecode
  | _ => rfl

/-- Settles O2: bytes too short for their format are rejected; otherwise each format's inversion holds. -/
theorem encodeOfDecodeIsTheBytes : Obligations.EncodeOfDecodeIsTheBytes := by
  unfold Obligations.EncodeOfDecodeIsTheBytes
  intro f bytes rest i h
  match f, bytes with
  | .cmd, [] => cases h
  | .cmd, [_] => cases h
  | .cmd, op :: val :: tail =>
    cases h
    obtain ⟨hWf, hFormat, hBytes⟩ := decodeCommand_sound op val
    exact ⟨hWf, hFormat, by rw [hBytes]; rfl⟩
  | .addr, [] => cases h
  | .addr, b :: tail =>
    cases h
    obtain ⟨hWf, hFormat, hBytes⟩ := decodeAddress_sound b
    exact ⟨hWf, hFormat, by rw [hBytes]; rfl⟩
  | .state, [] => cases h
  | .state, id :: tail =>
    cases hId : decodeStateId id with
    | error r => simp [decode, hId, Except.map] at h
    | ok j =>
      obtain ⟨q, rfl, rfl⟩ := decodeStateId_eq_ok hId
      rw [decode, hId] at h
      cases h
      obtain ⟨hWf, hFormat, hBytes⟩ := encode_stateInstr q
      exact ⟨hWf, hFormat, by rw [hBytes]; rfl⟩

/-- Settles O5: each word is a row of the table with its operand written out. -/
theorem sampleWordsDecode : Obligations.SampleWordsDecode := by
  unfold Obligations.SampleWordsDecode
  exact ⟨rfl, rfl, rfl, rfl, rfl, rfl, rfl, rfl, rfl, rfl⟩

end Sys2Proof
end

section
/-!
SUPPORT. The commands and the receive path (spec/42_register_protocol.md R170 to R175, spec/41_transport_fsm.md R146,
R147): what `apply` can do, what `RxEval` does with the first byte, with the second, and with none left to store.
-/

namespace Sys2Proof

open Sys2Proof.Machine Sys2Proof.Safety

/-! ## The commands -/

/-- Starting a conversion writes the start bit and the wait (R191 to R193). -/
theorem startConversion_frame (s : State) :
    startConversion s = { s with sc := true, wait := (startConversion s).wait } := by
  unfold startConversion
  split_ifs <;> rfl

/-- An opcode is one of the four with a row of their own, or ignored (R97). -/
theorem opcode_cases (op : Byte) :
    op = opCcl ∨ op = opCch ∨ op = opInctl ∨ op = opConv ∨ definedOpcode op = false := by
  rw [definedOpcode_eq_false_iff]
  tauto

theorem apply_opCcl (v : Byte) (s : State) : apply opCcl v s = { s with ccl := mergeBits s.params.mDF s.ccl v } :=
  rerouteIfChanged_writeCcl v s

theorem apply_opCch (v : Byte) (s : State) : apply opCch v s = rerouteIfChanged (writeCch v s) := rfl

theorem apply_opInctl (v : Byte) (s : State) : apply opInctl v s = rerouteIfChanged (writeInctl v s) := rfl

theorem apply_opConv (v : Byte) (s : State) :
    apply opConv v s = if bitZero v then startConversion s else stopConversion s := rfl

theorem apply_ignored {op : Byte} (v : Byte) (s : State) (h : definedOpcode op = false) : apply op v s = s := by
  have hExec := exec_decodeCommand op v s
  rw [decodeCommand_ignored v h] at hExec
  exact (Host.Outcome.next.inj hExec).symm

/-- The inversion of `apply` (R170): the register its opcode names is written, a conversion is started or stopped, or
nothing changes. -/
theorem apply_cases (op v : Byte) (s : State) :
    (op = opCcl ∧ apply op v s = { s with ccl := mergeBits s.params.mDF s.ccl v }) ∨
    (op = opCch ∧ apply op v s = { s with
      cch := mergeBits s.params.mCfg s.cch v, ie := (apply op v s).ie, ae := (apply op v s).ae }) ∨
    (op = opInctl ∧ apply op v s = { s with inctl := v, ae := (apply op v s).ae }) ∨
    (op = opConv ∧ bitZero v = true ∧ apply op v s = startConversion s) ∨
    (op = opConv ∧ bitZero v = false ∧ apply op v s = stopConversion s) ∨
    apply op v s = s := by
  rcases opcode_cases op with rfl | rfl | rfl | rfl | hIgnored
  · exact .inl ⟨rfl, apply_opCcl v s⟩
  · refine .inr (.inl ⟨rfl, ?_⟩)
    by_cases hSame : v &&& s.params.mCfg = s.cch &&& s.params.mCfg
    · rw [apply_opCch, rerouteIfChanged_writeCch_same v s hSame, mergeBits_of_masked_eq _ _ _ hSame]
    · rw [apply_opCch, rerouteIfChanged_writeCch_changed v s hSame]
  · refine .inr (.inr (.inl ⟨rfl, ?_⟩))
    by_cases hSame : v = s.inctl
    · rw [apply_opInctl, hSame, rerouteIfChanged_writeInctl_same]
    · rw [apply_opInctl, rerouteIfChanged_writeInctl_changed v s hSame]
  · rw [apply_opConv]
    cases hStart : bitZero v
    · exact .inr (.inr (.inr (.inr (.inl ⟨rfl, rfl, rfl⟩))))
    · exact .inr (.inr (.inr (.inl ⟨rfl, rfl, rfl⟩)))
  · exact .inr (.inr (.inr (.inr (.inr (apply_ignored v s hIgnored)))))

/-- The read window depends on the sample alone (R62, R70). -/
theorem readWindow_congr {s t : State} (h : t.sample = s.sample) (off : Nat) : readWindow off t = readWindow off s := by
  rw [readWindow_eq, readWindow_eq, h]

/-- Every instruction of format CMD is one the decoder answers, or an ignored opcode's, which changes nothing. -/
theorem exec_command_eq_apply {i : Instr} (h : i.format = .cmd) (s : State) :
    (∃ op v, exec i s = .next (apply op v s)) ∨ exec i s = .next s := by
  cases i with
  | wrccl v => exact .inl ⟨opCcl, v, exec_decodeCommand opCcl v s⟩
  | wrcch v => exact .inl ⟨opCch, v, exec_decodeCommand opCch v s⟩
  | wrinctl v => exact .inl ⟨opInctl, v, exec_decodeCommand opInctl v s⟩
  | convstart ign =>
    refine .inl ⟨opConv, conversionValue ign true, ?_⟩
    rw [← exec_decodeCommand, decodeCommand_conversion, if_pos rfl]
  | convstop ign =>
    refine .inl ⟨opConv, conversionValue ign false, ?_⟩
    rw [← exec_decodeCommand, decodeCommand_conversion, if_neg Bool.false_ne_true]
  | ignored op v => exact .inr rfl
  | _ => cases h

/-- Settles O26: every command is `apply` of its bytes, and `apply` has a frame. -/
theorem commandsLeaveTheTransportAlone : Obligations.CommandsLeaveTheTransportAlone := by
  unfold Obligations.CommandsLeaveTheTransportAlone
  intro i s hCommand
  rcases exec_command_eq_apply hCommand s with ⟨op, v, hExec⟩ | hExec
  · exact ⟨_, hExec, apply_frame op v s, readWindow_congr (by rw [apply_frame])⟩
  · exact ⟨s, hExec, rfl, fun _ => rfl⟩

/-- Settles O23: after the write the masked bits agree with the value, so the second write changes nothing. -/
theorem configurationWritesAreIdempotent : Obligations.ConfigurationWritesAreIdempotent := by
  unfold Obligations.ConfigurationWritesAreIdempotent
  rintro s v i (rfl | rfl | rfl)
  · refine ⟨_, exec_wrccl v s, ?_⟩
    rw [exec_wrccl, mergeBits_of_masked_eq s.params.mDF (mergeBits s.params.mDF s.ccl v) v
      (mergeBits_masked _ _ _).symm]
  · refine ⟨rerouteIfChanged (writeCch v s), rfl, congrArg Host.Outcome.next ?_⟩
    by_cases hSame : v &&& s.params.mCfg = s.cch &&& s.params.mCfg
    · rw [rerouteIfChanged_writeCch_same v s hSame, rerouteIfChanged_writeCch_same v s hSame]
    · rw [rerouteIfChanged_writeCch_changed v s hSame]
      exact rerouteIfChanged_writeCch_same v _ (mergeBits_masked _ _ _).symm
  · refine ⟨rerouteIfChanged (writeInctl v s), rfl, congrArg Host.Outcome.next ?_⟩
    by_cases hSame : v = s.inctl
    · rw [hSame, rerouteIfChanged_writeInctl_same, rerouteIfChanged_writeInctl_same]
    · rw [rerouteIfChanged_writeInctl_changed v s hSame]
      exact rerouteIfChanged_writeInctl_same { s with inctl := v, ae := routing s.params s.cch v }

/-! ## The receive path -/

theorem storeByte_first {s : State} (h : s.rxCount = 0) : storeByte s = { s with cmd0 := s.sr, rxCount := 1 } := by
  simp [storeByte, setCmd, cmdLen, h]

theorem storeByte_second {s : State} (h : s.rxCount = 1) : storeByte s = { s with cmd1 := s.sr, rxCount := 2 } := by
  simp [storeByte, setCmd, cmdLen, h]

theorem storeByte_full {s : State} (h : 2 ≤ s.rxCount) : storeByte s = s :=
  if_neg (Nat.not_lt.2 h)

/-- With a byte still to come the received one is acknowledged (R147). -/
theorem decideAck_acknowledges {s : State} (h : s.rxCount < 2) :
    decideAck s = { s with sr := 0x00, oe := true, cnt := 1, state := .rxByte } :=
  if_pos h

/-- With both bytes in, the next one would not be acknowledged and the transaction ends (R147). -/
theorem decideAck_ends {s : State} (h : 2 ≤ s.rxCount) :
    decideAck s = { s with
      sr := 0xFF, oe := false, direction := .write, rxCount := 0, txCount := 0, state := .idle } :=
  if_neg (Nat.not_lt.2 h)

/-- The rest of `RxEval` after a command that began no wait (R147). -/
theorem afterApply_running {u : State} (hWait : u.wait = false) (hCount : u.rxCount = 2) :
    afterApply u = { u with
      cmd0 := 0x00, cmd1 := 0x00, sr := 0xFF, oe := false, direction := .write, rxCount := 0, txCount := 0,
      state := .idle } := by
  have hCleared : 2 ≤ (clearCmd u).rxCount := hCount.ge
  rw [afterApply, if_neg (by rw [hWait]; exact Bool.false_ne_true), decideAck_ends hCleared]
  rfl

/-- A command that began a wait suspends the step (R193). -/
theorem afterApply_waiting {u : State} (hWait : u.wait = true) : afterApply u = u := by
  rw [afterApply, hWait, if_pos rfl]

/-- `RxEval` on the first payload byte stores and acknowledges it (R146, R147). -/
theorem exec_rxEval_first {s : State} (h : s.rxCount = 0) :
    exec .rxEval s = .next { s with
      cmd0 := s.sr, rxCount := 1, sr := 0x00, oe := true, cnt := 1, state := .rxByte } := by
  have hStored := storeByte_first h
  have hMore : (storeByte s).rxCount ≠ cmdLen := by rw [hStored]; exact (by decide : 1 ≠ cmdLen)
  show execRxEval s = _
  rw [execRxEval, if_neg hMore, hStored]
  exact congrArg Host.Outcome.next (decideAck_acknowledges Nat.one_lt_two)

/-- `RxEval` with two bytes stored applies the command they make (R146). -/
theorem exec_rxEval_command {s stored : State} (hStored : storeByte s = stored) (hCount : stored.rxCount = 2) :
    exec .rxEval s = .next (afterApply (apply stored.cmd0 stored.cmd1 stored)) := by
  have hFull : (storeByte s).rxCount = cmdLen := by rw [hStored]; exact hCount
  show execRxEval s = _
  rw [execRxEval, if_pos hFull, hStored]

/-- `RxEval` with a count out of range stores and applies nothing. -/
theorem exec_rxEval_surplus {s : State} (h : 2 < s.rxCount) : exec .rxEval s = .next { s with
    sr := 0xFF, oe := false, direction := .write, rxCount := 0, txCount := 0, state := .idle } := by
  have hStored := storeByte_full h.le
  have hSurplus : (storeByte s).rxCount ≠ cmdLen := by rw [hStored]; exact h.ne'
  show execRxEval s = _
  rw [execRxEval, if_neg hSurplus, hStored, decideAck_ends h.le]

/-- What the two cases with a whole command have in common: the store makes it, and it counts two bytes. -/
theorem storeByte_of_command {s stored : State}
    (h : (s.rxCount = 1 ∧ stored = { s with cmd1 := s.sr, rxCount := 2 }) ∨ (s.rxCount = 2 ∧ stored = s)) :
    storeByte s = stored ∧ stored.rxCount = 2 := by
  rcases h with ⟨hCount, rfl⟩ | ⟨hCount, rfl⟩
  · exact ⟨storeByte_second hCount, rfl⟩
  · exact ⟨storeByte_full hCount.ge, hCount⟩

/-- The decoder answers the command of two bytes with nothing after it. -/
theorem eq_decodeCommand {op v : Byte} {i : Instr} (h : decode .cmd [op, v] = .ok (i, [])) :
    i = decodeCommand op v :=
  (congrArg Prod.fst (Except.ok.inj h)).symm

/-- Settles O16: the second byte completes a command, `RxEval` is the rest of the step after its meaning, and that
rest is performed unless a wait began. -/
theorem receivedByteIsStoredAndExecuted : Obligations.ReceivedByteIsStoredAndExecuted := by
  unfold Obligations.ReceivedByteIsStoredAndExecuted
  intro s
  refine ⟨exec_rxEval_first, fun i stored _ hCase hDecode => ?_⟩
  obtain ⟨hStored, hCount⟩ := storeByte_of_command hCase
  rw [eq_decodeCommand hDecode]
  refine ⟨_, exec_decodeCommand _ _ _, ?_⟩
  rw [exec_rxEval_command hStored hCount]
  split_ifs with hWait
  · rw [afterApply_waiting hWait]
  · rw [afterApply_running (Bool.eq_false_of_not_eq_true hWait) (by rw [apply_frame]; exact hCount)]

/-! ## Dispatch and the other service steps -/

/-- The id in `state` decodes to the service step of that state (R140). -/
theorem eq_stateInstr {q : StateId} {i : Instr} (h : decode .state [stateCode q] = .ok (i, [])) : i = stateInstr q := by
  rw [decode, decodeStateId_stateCode] at h
  exact (congrArg Prod.fst (Except.ok.inj h)).symm

/-- Settles O11: the three places an instruction is fetched from, each by the decoder's lemma for its format. -/
theorem stepRunsTheDecodedInstruction : Obligations.StepRunsTheDecodedInstruction := by
  unfold Obligations.StepRunsTheDecodedInstruction
  refine ⟨fun s i hUp hDue hDecode => ?_, fun s i hDecode => ?_, fun s i hCount _ hDecode => ?_⟩
  · obtain ⟨u, hExec⟩ := exec_next i (enterService s)
    refine ⟨u, hExec, ?_⟩
    rw [step_eq_transportService hUp hDue, transportService, ← eq_stateInstr hDecode, hExec, mapNext]
  · have hClass : i = decodeAddress s.sr := (congrArg Prod.fst (Except.ok.inj hDecode)).symm
    rw [hClass, exec_addrMatch]
  · rw [eq_decodeCommand hDecode]
    exact ⟨_, exec_decodeCommand _ _ _, exec_rxEval_command (storeByte_second hCount) rfl⟩

/-- Settles O15: each class is one branch of `AddrMatch`. -/
theorem addressClassesComplete : Obligations.AddressClassesComplete := by
  unfold Obligations.AddressClassesComplete
  intro s addr7 rw
  exact ⟨rfl, rfl, rfl⟩

/-- An instruction that is no command is an address class or the service step of a state. -/
theorem address_or_stateInstr {i : Instr} (h : i.format ≠ .cmd) : i.format = .addr ∨ ∃ q, i = stateInstr q := by
  cases i with
  | addrw => exact .inl rfl
  | addrr => exact .inl rfl
  | addrmiss => exact .inl rfl
  | idle => exact .inr ⟨.idle, rfl⟩
  | addrCount => exact .inr ⟨.addrCount, rfl⟩
  | addrMatch => exact .inr ⟨.addrMatch, rfl⟩
  | rxByte => exact .inr ⟨.rxByte, rfl⟩
  | rxEval => exact .inr ⟨.rxEval, rfl⟩
  | txByte => exact .inr ⟨.txByte, rfl⟩
  | ackWait => exact .inr ⟨.ackWait, rfl⟩
  | ackEval => exact .inr ⟨.ackEval, rfl⟩
  | abort => exact .inr ⟨.abort, rfl⟩
  | _ => exact absurd rfl h

/-- An address class writes the state, the direction and the shift engine (R143). -/
theorem exec_addressClass_frame {i : Instr} (h : i.format = .addr) (s : State) : ∃ t, exec i s = .next t ∧
    t = { s with state := t.state, direction := t.direction, sr := t.sr, cnt := t.cnt, oe := t.oe } := by
  cases i with
  | addrw => exact ⟨_, rfl, rfl⟩
  | addrr => exact ⟨_, rfl, rfl⟩
  | addrmiss => exact ⟨_, rfl, rfl⟩
  | _ => cases h

/-- Settles O27: an address class has its frame, and a service step but `RxEval` has the frame of its state. -/
theorem serviceStepsLeaveTheConfigurationAlone : Obligations.ServiceStepsLeaveTheConfigurationAlone := by
  unfold Obligations.ServiceStepsLeaveTheConfigurationAlone
  intro i s hFormat hRxEval
  rcases address_or_stateInstr hFormat with hAddress | ⟨q, rfl⟩
  · obtain ⟨t, hExec, hFrame⟩ := exec_addressClass_frame hAddress s
    refine ⟨t, hExec, ?_, fun _ => ?_, readWindow_congr ?_⟩ <;> rw [hFrame]
  · obtain ⟨t, hExec⟩ := exec_next (stateInstr q) s
    obtain ⟨hFrame, hFlag⟩ := exec_stateInstr_frame (fun hq => hRxEval (congrArg stateInstr hq)) hExec
    exact ⟨t, hExec, hFrame, fun hCount => hFlag (fun hq => hCount (congrArg stateInstr hq)),
      readWindow_congr (by rw [hFrame])⟩

end Sys2Proof
end

section
/-!
SUPPORT. The inversion of a transport service and of a step of a running core (spec/41_transport_fsm.md R140 to R154,
spec/00_scope.md R14), each as a predicate with one named case for each thing that can happen.
-/

namespace Sys2Proof

open Sys2Proof.Machine Sys2Proof.Safety

/-! ## The service of a count event -/

/-- What the service of a count event leaves, case by case of the state id and of what decides there, as whole next
states. In the two cases of a command its value `v` is the byte just received or, with two bytes stored already, the
second of them. -/
inductive CountServed (s : State) : State → Prop where
  | idle (hState : s.state = .idle) : CountServed s { s with state := .idle, cntifg := false }
  | addrCount (hState : s.state = .addrCount) :
      CountServed s { s with oe := false, cnt := 8, sttifg := false, state := .addrMatch, cntifg := false }
  | ownWrite (hState : s.state = .addrMatch) (hByte : s.sr = 0x16) :
      CountServed s { s with sr := 0x00, direction := .write, state := .rxByte, oe := true, cnt := 1, cntifg := false }
  | ownRead (hState : s.state = .addrMatch) (hByte : s.sr = 0x17) :
      CountServed s { s with sr := 0x00, direction := .read, state := .txByte, oe := true, cnt := 1, cntifg := false }
  | foreign (hState : s.state = .addrMatch) (hWrite : s.sr ≠ 0x16) (hRead : s.sr ≠ 0x17) :
      CountServed s { s with sr := 0xFF, state := .abort, oe := true, cnt := 1, cntifg := false }
  | rxByte (hState : s.state = .rxByte) :
      CountServed s { s with oe := false, cnt := 8, state := .rxEval, cntifg := false }
  | firstByte (hState : s.state = .rxEval) (hCount : s.rxCount = 0) :
      CountServed s { s with
        cmd0 := s.sr, rxCount := 1, sr := 0x00, oe := true, cnt := 1, state := .rxByte, cntifg := false }
  | suspended {v : Byte} (hState : s.state = .rxEval) (hByte : s.rxCount = 1 ∧ v = s.sr ∨ s.rxCount = 2 ∧ v = s.cmd1)
      (hWaits : (apply s.cmd0 v { s with cmd1 := v, rxCount := 2 }).wait = true) :
      CountServed s (apply s.cmd0 v { s with cmd1 := v, rxCount := 2 })
  | executed {v : Byte} (hState : s.state = .rxEval) (hByte : s.rxCount = 1 ∧ v = s.sr ∨ s.rxCount = 2 ∧ v = s.cmd1)
      (hReturns : (apply s.cmd0 v { s with cmd1 := v, rxCount := 2 }).wait = false) :
      CountServed s { apply s.cmd0 v { s with cmd1 := v, rxCount := 2 } with
        cmd0 := 0x00, cmd1 := 0x00, sr := 0xFF, oe := false, direction := .write, rxCount := 0, txCount := 0,
        state := .idle, cntifg := false }
  | surplus (hState : s.state = .rxEval) (hCount : 2 < s.rxCount) :
      CountServed s { s with
        sr := 0xFF, oe := false, direction := .write, rxCount := 0, txCount := 0, state := .idle, cntifg := false }
  | load (hState : s.state = .txByte ∨ s.state = .ackEval ∧ bitZero s.sr = false) :
      CountServed s { s with
        sr := readWindow s.txCount s, txCount := if s.txCount < 2 then s.txCount + 1 else s.txCount, oe := true,
        cnt := 8, state := .ackWait, cntifg := false }
  | ackWait (hState : s.state = .ackWait) :
      CountServed s { s with oe := false, cnt := 1, state := .ackEval, cntifg := false }
  | declined (hState : s.state = .ackEval) (hNack : bitZero s.sr = true) :
      CountServed s { s with
        oe := false, direction := .write, rxCount := 0, txCount := 0, state := .idle, cntifg := false }
  | abort (hState : s.state = .abort) :
      CountServed s { s with
        oe := false, direction := .write, rxCount := 0, txCount := 0, state := .idle, cntifg := false }

/-- A service whose step begins no wait is that step with `CNTIFG` cleared (R140). -/
theorem transportService_of_exec {s u : State} {q : StateId} (hNoStart : s.sttifg = false) (hState : s.state = q)
    (hExec : exec (stateInstr q) s = .next u) (hWait : u.wait = false) :
    transportService s = .next { u with cntifg := false } := by
  rw [transportService_count hNoStart, hState, hExec, mapNext, endService_running u hWait]

/-- `TxByte` and an acknowledged `AckEval` load the next byte of the read window (R148, R151, R152). -/
theorem exec_load {s : State} (h : s.state = .txByte ∨ s.state = .ackEval ∧ bitZero s.sr = false) :
    exec (stateInstr s.state) s = .next (txLoad s) := by
  rcases h with hState | ⟨hState, hAck⟩ <;> rw [hState]
  · rfl
  · exact exec_ackEval_of_ack hAck

/-- The service of a count event in state 8 (R146, R147). -/
theorem countServed_of_rxEval {s t : State} (hWait : s.wait = false) (hNoStart : s.sttifg = false)
    (hState : s.state = .rxEval) (h : transportService s = .next t) : CountServed s t := by
  have hServe {u : State} (hExec : exec .rxEval s = .next u) (hReturns : u.wait = false) :
      t = { u with cntifg := false } :=
    Host.Outcome.next.inj (h.symm.trans (transportService_of_exec hNoStart hState hExec hReturns))
  have hCommand (v : Byte) (hByte : s.rxCount = 1 ∧ v = s.sr ∨ s.rxCount = 2 ∧ v = s.cmd1) : CountServed s t := by
    have hStored : storeByte s = { s with cmd1 := v, rxCount := 2 } := by
      rcases hByte with ⟨hCount, rfl⟩ | ⟨hCount, rfl⟩
      · exact storeByte_second hCount
      · rw [storeByte_full hCount.ge, ← hCount]
    have hExec := exec_rxEval_command hStored rfl
    cases hApplied : (apply s.cmd0 v { s with cmd1 := v, rxCount := 2 }).wait with
    | true =>
      rw [afterApply_waiting hApplied] at hExec
      rw [transportService_count hNoStart, hState, stateInstr, hExec, mapNext, endService_suspended _ hApplied] at h
      cases h
      exact .suspended hState hByte hApplied
    | false =>
      rw [afterApply_running hApplied (by rw [apply_frame])] at hExec
      obtain rfl := hServe hExec hApplied
      exact .executed hState hByte hApplied
  obtain hCount | hCount | hCount | hCount : s.rxCount = 0 ∨ s.rxCount = 1 ∨ s.rxCount = 2 ∨ 2 < s.rxCount := by omega
  · obtain rfl := hServe (exec_rxEval_first hCount) hWait
    exact .firstByte hState hCount
  · exact hCommand s.sr (.inl ⟨hCount, rfl⟩)
  · exact hCommand s.cmd1 (.inr ⟨hCount, rfl⟩)
  · obtain rfl := hServe (exec_rxEval_surplus hCount) hWait
    exact .surplus hState hCount

/-- The inversion of the service of a count event (R140). -/
theorem countServed_of_transportService {s t : State} (hWait : s.wait = false) (hNoStart : s.sttifg = false)
    (h : transportService s = .next t) : CountServed s t := by
  have hServe {q : StateId} {u : State} (hState : s.state = q) (hExec : exec (stateInstr q) s = .next u)
      (hReturns : u.wait = false) : t = { u with cntifg := false } :=
    Host.Outcome.next.inj (h.symm.trans (transportService_of_exec hNoStart hState hExec hReturns))
  have hLoad (hState : s.state = .txByte ∨ s.state = .ackEval ∧ bitZero s.sr = false) : CountServed s t := by
    have hExec := exec_load hState
    rw [txLoad_eq] at hExec
    obtain rfl := hServe rfl hExec hWait
    exact .load hState
  cases hState : s.state with
  | idle => obtain rfl := hServe hState rfl hWait; exact .idle hState
  | addrCount => obtain rfl := hServe hState rfl hWait; exact .addrCount hState
  | addrMatch =>
    obtain ⟨hOwnWrite, hOwnRead, hForeign⟩ := addressByteIsMatched s
    by_cases hWrite : s.sr = 0x16
    · obtain rfl := hServe hState (hOwnWrite hWrite) hWait; exact .ownWrite hState hWrite
    by_cases hRead : s.sr = 0x17
    · obtain rfl := hServe hState (hOwnRead hRead) hWait; exact .ownRead hState hRead
    · obtain rfl := hServe hState (hForeign hWrite hRead) hWait; exact .foreign hState hWrite hRead
  | rxByte => obtain rfl := hServe hState rfl hWait; exact .rxByte hState
  | rxEval => exact countServed_of_rxEval hWait hNoStart hState h
  | txByte => exact hLoad (.inl hState)
  | ackWait => obtain rfl := hServe hState rfl hWait; exact .ackWait hState
  | ackEval =>
    cases hBit : bitZero s.sr with
    | false => exact hLoad (.inr ⟨hState, hBit⟩)
    | true => obtain rfl := hServe hState (exec_ackEval_of_nack hBit) hWait; exact .declined hState hBit
  | abort => obtain rfl := hServe hState rfl hWait; exact .abort hState

/-! ## The transport service -/

theorem transportEnabled_iff {s : State} :
    transportEnabled s = true ↔ s.wait = false ∧ s.tie = true ∧ (s.sttifg = true ∨ s.cntifg = true) := by
  simp [transportEnabled, and_assoc]

theorem adcEnabled_iff {s : State} : adcEnabled s = true ↔ s.adcifg = true ∧ s.ie = true ∧ s.wait = false := by
  simp [adcEnabled]
  tauto

theorem waitDoneEnabled_iff {s : State} : waitDoneEnabled s = true ↔ s.wait = true ∧ s.adcifg = true := by
  simp [waitDoneEnabled]

/-- The inversion of a transport service that is due: a pending start is served, or else the count event (R140). -/
theorem transportService_inv {s t : State} (hDue : transportEnabled s = true) (h : transportService s = .next t) :
    (s.sttifg = true ∧ t = { s with
      direction := .write, rxCount := 0, txCount := 0, oe := false, cnt := 8, sttifg := false, cntifg := false,
      state := .addrMatch }) ∨
    (s.sttifg = false ∧ s.cntifg = true ∧ CountServed s t) := by
  obtain ⟨hWait, -, hFlag⟩ := transportEnabled_iff.1 hDue
  cases hStart : s.sttifg with
  | true =>
    rw [transportService_start hStart hWait] at h
    exact .inl ⟨rfl, (Host.Outcome.next.inj h).symm⟩
  | false =>
    have hCounted : s.cntifg = true := by simpa [hStart] using hFlag
    exact .inr ⟨rfl, hCounted, countServed_of_transportService hWait hStart h⟩

/-- What a command leaves besides the configuration, the start bit and the wait. -/
theorem apply_flags (op v : Byte) (s : State) :
    (apply op v s).sttifg = s.sttifg ∧ (apply op v s).cntifg = s.cntifg := by
  rw [apply_frame]
  exact ⟨rfl, rfl⟩

/-- The service of a count event leaves no start pending, and no count event unless it began a wait (R140, R193). -/
theorem CountServed.flags {s t : State} (h : CountServed s t) (hNoStart : s.sttifg = false) :
    t.sttifg = false ∧ (t.wait = false → t.cntifg = false) := by
  cases h with
  | suspended _ _ hWaits =>
    exact ⟨(apply_flags _ _ _).1.trans hNoStart, fun hWait => nomatch hWaits.symm.trans hWait⟩
  | executed => exact ⟨(apply_flags _ _ _).1.trans hNoStart, fun _ => rfl⟩
  | addrCount => exact ⟨rfl, fun _ => rfl⟩
  | _ => exact ⟨hNoStart, fun _ => rfl⟩

/-- After a transport service none is due: both its flags are clear, unless a wait suspends it (R140, R216). -/
theorem transportService_flags {s t : State} (hDue : transportEnabled s = true) (h : transportService s = .next t) :
    t.sttifg = false ∧ (t.wait = false → t.cntifg = false) := by
  rcases transportService_inv hDue h with ⟨_, rfl⟩ | ⟨hNoStart, _, hServed⟩
  · exact ⟨rfl, fun _ => rfl⟩
  · exact hServed.flags hNoStart

theorem transportService_not_due {s t : State} (hDue : transportEnabled s = true) (h : transportService s = .next t) :
    transportEnabled t = false := by
  obtain ⟨hNoStart, hCounted⟩ := transportService_flags hDue h
  cases hWait : t.wait with
  | true => simp [transportEnabled, hWait]
  | false => simp [transportEnabled, hNoStart, hCounted hWait]

/-- Settles O18: the row of each state is a case of the service. -/
theorem successorTable : Obligations.SuccessorTable := by
  unfold Obligations.SuccessorTable
  intro s t hInv hDue hServe hWait
  rcases transportService_inv hDue hServe with ⟨hStart, rfl⟩ | ⟨hNoStart, _, hServed⟩
  · exact ⟨fun _ => rfl, fun hNoStart => nomatch hStart.symm.trans hNoStart⟩
  refine ⟨fun hStart => (nomatch hStart.symm.trans hNoStart), fun _ => ?_⟩
  cases hServed with
  | suspended _ _ hWaits => nomatch hWaits.symm.trans hWait
  | load hState =>
    rcases hState with hState | ⟨hState, hAck⟩
    · simp [hState]
    · simpa [hState, bitZero] using hAck
  | executed hState hByte =>
    have hCount : s.rxCount ≠ 0 := by omega
    simp [hState, hCount]
  | surplus hState hCount =>
    have hCount' : s.rxCount ≠ 0 := by omega
    simp [hState, hCount']
  | declined hState hNack => simpa [hState, bitZero] using hNack
  | foreign hState hWrite hRead =>
    rw [if_neg hWrite, if_neg hRead]
    simp [hState]
  | ownWrite hState hByte | ownRead hState hByte => simp [hState, hByte]
  | firstByte hState hCount => simp [hState, hCount]
  | idle hState | addrCount hState | rxByte hState | ackWait hState | abort hState => simp [hState]

/-! ## The step of a running core -/

/-- What a step of a running core can be (R14): the internal step that is due, else the next event, else nothing. -/
inductive RunningStep (s : State) : State → Prop where
  | waitDone (hDue : waitDoneEnabled s = true) : RunningStep s (waitDone s)
  | transport {t : State} (hDue : transportEnabled s = true) (hServe : transportService s = .next t) : RunningStep s t
  | adc (hNoTransport : transportEnabled s = false) (hDue : adcEnabled s = true) : RunningStep s (adcService s)
  | start {es : List Event} (hQuiet : Quiescent s) (hEvents : s.events = .start :: es) :
      RunningStep s (startEvent { s with events := es })
  | ignoredPulse {es : List Event} {m : Level} (hQuiet : Quiescent s) (hEvents : s.events = .clock m :: es)
      (hIdle : s.cnt = 0) : RunningStep s { s with levels := lineLevel m s :: s.levels, events := es }
  | pulse {es : List Event} {m : Level} (hQuiet : Quiescent s) (hEvents : s.events = .clock m :: es)
      (hArmed : 0 < s.cnt) :
      RunningStep s { s with
        sr := shiftIn s.sr (lineLevel m s), cnt := s.cnt - 1, cntifg := if s.cnt - 1 = 0 then true else s.cntifg,
        levels := lineLevel m s :: s.levels, events := es }
  | completion {es : List Event} {v : Half} (hQuiet : Quiescent s) (hEvents : s.events = .adcComplete v :: es)
      (hConverting : s.sc = true) : RunningStep s (adcLatch v { s with events := es })
  | nothing {es : List Event} (hQuiet : Quiescent s) (hEvents : s.events = .stop :: es ∨ s.events = es) :
      RunningStep s { s with events := es }

/-- The inversion of a step after the bring-up. -/
theorem runningStep_of_step {s t : State} (hUp : s.broughtUp = true) (h : step s = .next t) : RunningStep s t := by
  rcases step_cases h with ⟨hDown, _⟩ | ⟨_, hDue, rfl⟩ | ⟨_, hDue, hServe⟩ | ⟨_, hNoTransport, hDue, rfl⟩ |
    ⟨_, hQuiet, e, es, hEvents, hTaken⟩ | ⟨_, hQuiet, _, rfl⟩
  · nomatch hUp.symm.trans hDown
  · exact .waitDone hDue
  · exact .transport hDue hServe
  · exact .adc hNoTransport hDue
  · rcases takeEvent_cases hTaken with ⟨rfl, rfl⟩ | ⟨rfl, rfl⟩ | ⟨m, rfl, rfl⟩ | ⟨v, rfl, hConverting, rfl⟩
    · exact .start hQuiet hEvents
    · exact .nothing hQuiet (.inl hEvents)
    · rcases Nat.eq_zero_or_pos s.cnt with hIdle | hArmed
      · rw [clockEvent_idle m { s with events := es } hIdle]
        exact .ignoredPulse hQuiet hEvents hIdle
      · rw [clockEvent_shifting m { s with events := es } hArmed]
        exact .pulse hQuiet hEvents hArmed
    · exact .completion hQuiet hEvents hConverting
  · exact .nothing hQuiet (.inr rfl)

end Sys2Proof
end

section
/-!
SUPPORT. Reset and bring-up, the completion and its interrupt, the wait, and the step discipline
(spec/70_reset_and_hazards.md R240 to R245, spec/43_adc_controller.md R190, R193 to R198, spec/00_scope.md R14,
spec/60_exceptions.md R216).
-/

namespace Sys2Proof

open Sys2Proof.Machine Sys2Proof.Safety

/-! ## Reset and bring-up -/

/-- Settles O7: the first step is the bring-up, and the bring-up is its rule's whole update. -/
theorem bringUpComesFirst : Obligations.BringUpComesFirst := by
  unfold Obligations.BringUpComesFirst
  intro s hDown
  exact step_bringUp hDown

/-- Settles O6: both columns are read off `State.reset` and the bring-up of it. -/
theorem resetAndLaunchColumns : Obligations.ResetAndLaunchColumns := by
  unfold Obligations.ResetAndLaunchColumns
  refine ⟨?_, bringUp State.reset, step_bringUp rfl, ?_⟩ <;> and_intros <;> rfl

/-! ## The read window and the completion -/

/-- Settles O28: the window's equation gives each offset, and the two bytes are the halves of the sample. -/
theorem readWindowIsTheSampleThenFiller : Obligations.ReadWindowIsTheSampleThenFiller := by
  unfold Obligations.ReadWindowIsTheSampleThenFiller
  intro s off
  refine ⟨rfl, rfl, fun hLate => ?_, BitVec.extractLsb'_append_extractLsb'⟩
  have hFirst : off ≠ 0 := by omega
  have hSecond : off ≠ 1 := by omega
  rw [readWindow_eq, if_neg hFirst, if_neg hSecond]

/-- The start bit survives a completion exactly in continuous mode (R190). -/
theorem adcLatch_sc_iff {s : State} (v : Half) (hConverting : s.sc = true) :
    (adcLatch v s).sc = true ↔ ContinuousMode s.params s.cch := by
  have hSc : (adcLatch v s).sc = if isSingle s.params s.cch then false else s.sc := rfl
  rw [hSc, hConverting, ← isCont_iff, isSingle]
  cases isCont s.params s.cch <;> decide

/-- Settles O29: the guard of the event is the start bit. -/
theorem completionLatchesTheResult : Obligations.CompletionLatchesTheResult := by
  unfold Obligations.CompletionLatchesTheResult
  intro s v
  exact ⟨fun hConverting => ⟨adcLatch v s, if_pos hConverting, rfl, adcLatch_sc_iff v hConverting⟩,
    fun hStopped => if_neg (by rw [hStopped]; exact Bool.false_ne_true)⟩

/-- Settles O31: the enabling condition, the handler's whole update, and the order of R14. -/
theorem completionInterruptCopiesTheResult : Obligations.CompletionInterruptCopiesTheResult := by
  unfold Obligations.CompletionInterruptCopiesTheResult
  intro s
  exact ⟨adcEnabled_iff, rfl, fun hUp hDue hNoTransport => step_internal hUp (enabledStep_adc.2 ⟨hDue, hNoTransport⟩)⟩

/-! ## The wait -/

/-- Settles O32: a waiting core can only end its wait, take an event, or idle. -/
theorem onlyACompletionEndsAWait : Obligations.OnlyACompletionEndsAWait := by
  unfold Obligations.OnlyACompletionEndsAWait
  intro s t hUp hWait hStep
  cases runningStep_of_step hUp hStep with
  | waitDone hDue =>
    obtain ⟨_, hFlag⟩ := waitDoneEnabled_iff.1 hDue
    exact ⟨fun _ => ⟨hFlag, rfl⟩, fun hNoFlag => nomatch hFlag.symm.trans hNoFlag⟩
  | transport hDue =>
    obtain ⟨hNoWait, _⟩ := transportEnabled_iff.1 hDue
    nomatch hWait.symm.trans hNoWait
  | adc _ hDue =>
    obtain ⟨_, _, hNoWait⟩ := adcEnabled_iff.1 hDue
    nomatch hWait.symm.trans hNoWait
  | nothing _ hEvents =>
    refine ⟨fun hNoWait => (nomatch hWait.symm.trans hNoWait), fun _ => ⟨hWait, rfl, rfl, rfl, rfl, fun hNone => ?_⟩⟩
    rcases hEvents with hStop | rfl
    · nomatch hStop.symm.trans hNone
    · rfl
  | start _ hEvents | ignoredPulse _ hEvents | pulse _ hEvents | completion _ hEvents =>
    exact ⟨fun hNoWait => (nomatch hWait.symm.trans hNoWait),
      fun _ => ⟨hWait, rfl, rfl, rfl, rfl, fun hNone => nomatch hEvents.symm.trans hNone⟩⟩

/-- Settles O33: the wait holds with nothing armed and the line released, and it blocks the transport service. -/
theorem waitingCoreIsDeafToTheBus : Obligations.WaitingCoreIsDeafToTheBus := by
  unfold Obligations.WaitingCoreIsDeafToTheBus
  intro s m hInv hWait
  obtain ⟨_, _, _, hIdle, hReleased, _⟩ := hInv.waiting hWait
  refine ⟨congrArg Host.Outcome.next ?_, startEvent s, rfl, rfl, ?_⟩
  · rw [clockEvent_idle m s hIdle, lineLevel_released m s hReleased]
  · simp [transportEnabled, hWait]

/-! ## The step discipline -/

/-- No internal step takes an event of the schedule. -/
theorem runInternal_events {k : Internal} {s t : State} (h : runInternal k s = .next t) : t.events = s.events := by
  cases k with
  | waitDone => cases h; rfl
  | transport => rw [transportService_frame h]
  | adc => cases h; rfl

/-- Settles O34: the three branches of a running step. -/
theorem eventsWaitForQuiescence : Obligations.EventsWaitForQuiescence := by
  unfold Obligations.EventsWaitForQuiescence
  intro s hUp
  refine ⟨fun k hDue => ⟨step_internal hUp hDue, fun t hStep => ?_⟩,
    fun hQuiet e es hEvents => step_event hUp hQuiet hEvents, step_idle hUp⟩
  rw [step_internal hUp hDue] at hStep
  exact runInternal_events hStep

theorem settle_of_quiescent {s : State} (n : Nat) (h : Quiescent s) : settle n s = .next s := by
  have hNone : enabledStep s = none := h
  cases n with
  | zero => rfl
  | succ n => simp only [settle, hNone]

theorem settle_of_internal {k : Internal} {s t : State} (n : Nat) (hDue : enabledStep s = some k)
    (hRun : runInternal k s = .next t) : settle (n + 1) s = settle n t := by
  simp only [settle, hDue, hRun]

/-- The end of a wait leaves nothing due but the service of a start latched during it (R196). -/
theorem quiescent_waitDone {s : State} (hNoTransport : transportEnabled (waitDone s) = false) :
    Quiescent (waitDone s) := by
  have hWait : (waitDone s).wait = false := rfl
  have hFlag : (waitDone s).adcifg = false := rfl
  simp [quiescent_iff, hNoTransport, waitDoneEnabled, adcEnabled, hWait, hFlag]

theorem transportEnabled_waitDone {s : State} :
    transportEnabled (waitDone s) = true ↔ s.tie = true ∧ s.sttifg = true := by
  have hFlags : (waitDone s).sttifg = s.sttifg ∧ (waitDone s).cntifg = false ∧
      (waitDone s).wait = false ∧ (waitDone s).tie = s.tie := ⟨rfl, rfl, rfl, rfl⟩
  simp [transportEnabled_iff, hFlags]

/-- The completion interrupt leaves nothing due but a transport service (R198). -/
theorem quiescent_adcService {s : State} (hDue : adcEnabled s = true) (hNoTransport : transportEnabled s = false) :
    Quiescent (adcService s) := by
  obtain ⟨_, _, hWait⟩ := adcEnabled_iff.1 hDue
  have hTransport : transportEnabled (adcService s) = false := hNoTransport
  simp [quiescent_iff, hTransport, waitDoneEnabled, adcEnabled, hWait]

/-- After a transport service at most one more internal step is due: the end of the wait it began, or the completion
interrupt it enabled (R14). -/
theorem settle_transport {s t : State} (hDue : transportEnabled s = true) (hServe : transportService s = .next t) :
    ∃ u, settle 2 s = .next u ∧ Quiescent u ∧ (u = t ∨ t.wait = true ∧ u = waitDone t ∨ u = adcService t) := by
  rw [settle_of_internal 1 (enabledStep_transport.2 hDue) hServe]
  have hNoTransport := transportService_not_due hDue hServe
  cases hNext : enabledStep t with
  | none => exact ⟨t, settle_of_quiescent 1 hNext, hNext, .inl rfl⟩
  | some k =>
    cases k with
    | waitDone =>
      obtain ⟨hNoStart, _⟩ := transportService_flags hDue hServe
      obtain ⟨hWait, _⟩ := waitDoneEnabled_iff.1 (enabledStep_waitDone.1 hNext)
      have hNoNext : transportEnabled (waitDone t) = false := by
        rw [← Bool.not_eq_true, transportEnabled_waitDone, hNoStart]
        exact fun hDue => nomatch hDue.2
      exact ⟨waitDone t, settle_of_internal 0 hNext rfl, quiescent_waitDone hNoNext, .inr (.inl ⟨hWait, rfl⟩)⟩
    | transport => nomatch hNoTransport.symm.trans (enabledStep_transport.1 hNext)
    | adc =>
      obtain ⟨hAdc, _⟩ := enabledStep_adc.1 hNext
      exact ⟨adcService t, settle_of_internal 0 hNext rfl, quiescent_adcService hAdc hNoTransport, .inr (.inr rfl)⟩

/-- Settles O35: one step and its successor, by which internal step is due first. -/
theorem twoInternalStepsReachQuiescence : Obligations.TwoInternalStepsReachQuiescence := by
  unfold Obligations.TwoInternalStepsReachQuiescence
  intro s
  cases hFirst : enabledStep s with
  | none => exact ⟨s, settle_of_quiescent 2 hFirst, hFirst⟩
  | some k =>
    cases k with
    | waitDone =>
      rw [settle_of_internal 1 hFirst rfl]
      cases hNext : transportEnabled (waitDone s) with
      | false => exact ⟨_, settle_of_quiescent 1 (quiescent_waitDone hNext), quiescent_waitDone hNext⟩
      | true =>
        obtain ⟨_, hStart⟩ := transportEnabled_waitDone.1 hNext
        rw [settle_of_internal 0 (enabledStep_transport.2 hNext) (transportService_start hStart rfl)]
        refine ⟨_, rfl, ?_⟩
        have hFlags : (waitDone s).adcifg = false ∧ (waitDone s).wait = false := ⟨rfl, rfl⟩
        simp [quiescent_iff, waitDoneEnabled, transportEnabled, adcEnabled, hFlags]
    | transport =>
      have hDue := enabledStep_transport.1 hFirst
      obtain ⟨t, hServe⟩ := transportService_next s
      obtain ⟨u, hSettle, hQuiet, _⟩ := settle_transport hDue hServe
      exact ⟨u, hSettle, hQuiet⟩
    | adc =>
      obtain ⟨hDue, hNoTransport⟩ := enabledStep_adc.1 hFirst
      have hQuiet := quiescent_adcService hDue hNoTransport
      rw [settle_of_internal 1 hFirst rfl]
      exact ⟨_, settle_of_quiescent 1 hQuiet, hQuiet⟩

/-- Settles O41: the six cases of a step are the bring-up, the moves, and idling. -/
theorem stepIsAMoveOfTheWeakerDiscipline : Obligations.StepIsAMoveOfTheWeakerDiscipline := by
  unfold Obligations.StepIsAMoveOfTheWeakerDiscipline
  intro s t hStep
  rcases step_cases hStep with hFirst | ⟨_, hDue, rfl⟩ | ⟨_, hDue, hServe⟩ | ⟨_, _, hDue, rfl⟩ |
    ⟨_, _, e, es, hEvents, hTaken⟩ | ⟨_, _, _, rfl⟩
  · exact .inl hFirst
  · exact .inr (.inr (.inl (.waitDone hDue)))
  · exact .inr (.inr (.inl (.transport hDue hServe)))
  · exact .inr (.inr (.inl (.adc hDue)))
  · exact .inr (.inr (.inr ⟨e, es, hEvents, .event e hTaken⟩))
  · exact .inr (.inl rfl)

/-! ## The two interrupt sources -/

/-- Whether the service of state `q` reads `SAMPLE` or executes a command (R151, R152, R146). -/
def LoadsOrExecutes (q : StateId) (s : State) : Prop :=
  q = .txByte ∨ (q = .rxEval ∧ (s.rxCount = 1 ∨ s.rxCount = 2)) ∨ (q = .ackEval ∧ bitZero s.sr = false)

/-- A service step that neither reads `SAMPLE` nor executes a command commutes with the completion interrupt, and leaves
it as due as it was (R216). -/
theorem exec_adcService_comm {q : StateId} {s : State} (h : ¬ LoadsOrExecutes q s) :
    ∃ u, exec (stateInstr q) s = .next u ∧ exec (stateInstr q) (adcService s) = .next (adcService u) ∧
      adcEnabled u = adcEnabled s ∧ u.wait = s.wait := by
  cases q with
  | addrMatch =>
    obtain ⟨hOwnWrite, hOwnRead, hForeign⟩ := addressByteIsMatched s
    obtain ⟨hOwnWrite', hOwnRead', hForeign'⟩ := addressByteIsMatched (adcService s)
    by_cases hWrite : s.sr = 0x16
    · exact ⟨_, hOwnWrite hWrite, hOwnWrite' hWrite, rfl, rfl⟩
    by_cases hRead : s.sr = 0x17
    · exact ⟨_, hOwnRead hRead, hOwnRead' hRead, rfl, rfl⟩
    · exact ⟨_, hForeign hWrite hRead, hForeign' hWrite hRead, rfl, rfl⟩
  | rxEval =>
    obtain hCount | hCount | hCount : s.rxCount = 0 ∨ (s.rxCount = 1 ∨ s.rxCount = 2) ∨ 2 < s.rxCount := by omega
    · exact ⟨_, exec_rxEval_first hCount, exec_rxEval_first (s := adcService s) hCount, rfl, rfl⟩
    · exact absurd (.inr (.inl ⟨rfl, hCount⟩)) h
    · exact ⟨_, exec_rxEval_surplus hCount, exec_rxEval_surplus (s := adcService s) hCount, rfl, rfl⟩
  | ackEval =>
    cases hBit : bitZero s.sr with
    | false => exact absurd (.inr (.inr ⟨rfl, hBit⟩)) h
    | true => exact ⟨_, exec_ackEval_of_nack hBit, exec_ackEval_of_nack (s := adcService s) hBit, rfl, rfl⟩
  | txByte => exact absurd (.inl rfl) h
  | _ => exact ⟨_, rfl, rfl, rfl, rfl⟩

theorem enterService_adcService (s : State) : enterService (adcService s) = adcService (enterService s) := by
  unfold enterService
  cases hStart : s.sttifg <;> simp only [adcService_sttifg, hStart] <;> rfl

theorem endService_adcService (s : State) : endService (adcService s) = adcService (endService s) := by
  unfold endService
  cases hWait : s.wait <;> simp only [adcService_wait, hWait] <;> rfl

/-- Settles O36: entry, step and return each commute with the completion interrupt. -/
theorem servicesCommute : Obligations.ServicesCommute := by
  unfold Obligations.ServicesCommute
  intro s hTransport hAdc hCase
  have hNeither : ¬ LoadsOrExecutes (enterService s).state (enterService s) := by
    cases hStart : s.sttifg with
    | true =>
      rw [enterService_start s hStart]
      simp [LoadsOrExecutes]
    | false =>
      rw [enterService_count s hStart]
      simp only [hStart, Bool.false_eq_true, false_or] at hCase
      obtain ⟨hRxEval, hTxByte, hAckEval⟩ := hCase
      rintro (hq | ⟨hq, hCount⟩ | ⟨hq, hAck⟩)
      · exact hTxByte hq
      · exact hCount.elim (hRxEval hq).1 (hRxEval hq).2
      · nomatch hAck.symm.trans (hAckEval hq)
  obtain ⟨u, hExec, hExecAfter, hAdcEnabled, hWait⟩ := exec_adcService_comm hNeither
  have hEnter : adcEnabled (enterService s) = adcEnabled s := by unfold enterService; split <;> rfl
  have hEnd : adcEnabled (endService u) = adcEnabled u := by unfold endService; split <;> rfl
  refine ⟨endService u, ?_, ?_, hTransport, ?_⟩
  · rw [transportService, hExec, mapNext]
  · rw [hEnd, hAdcEnabled, hEnter, hAdc]
  · rw [transportService, enterService_adcService, adcService_state, hExecAfter, mapNext, endService_adcService]

/-! ## Constants of a run -/

/-- A running core stays one, and no step writes the transport enable or the parameters (R42, R7). -/
theorem RunningStep.constants {s t : State} (h : RunningStep s t) :
    t.broughtUp = s.broughtUp ∧ t.tie = s.tie ∧ t.params = s.params := by
  cases h with
  | transport _ hServe => rw [transportService_frame hServe]; exact ⟨rfl, rfl, rfl⟩
  | _ => exact ⟨rfl, rfl, rfl⟩

/-- Every step is of a core that has been brought up, or brings it up (R242). -/
theorem step_broughtUp {s t : State} (h : step s = .next t) : t.broughtUp = true := by
  cases hUp : s.broughtUp with
  | true => exact (runningStep_of_step hUp h).constants.1.trans hUp
  | false =>
    rw [step_bringUp hUp] at h
    cases h
    rfl

/-- A step of a running core from a state with one service due at most leaves such a state (R216). -/
theorem RunningStep.services_apart {s t : State} (h : RunningStep s t) :
    transportEnabled t = true → adcEnabled t = false := by
  cases h with
  | waitDone =>
    have hFlag : (Machine.waitDone s).adcifg = false := rfl
    exact fun _ => by simp [adcEnabled, hFlag]
  | transport hDue hServe => exact fun hAgain => nomatch (transportService_not_due hDue hServe).symm.trans hAgain
  | adc => exact fun _ => by simp [adcEnabled]
  | start hQuiet | ignoredPulse hQuiet | pulse hQuiet | nothing hQuiet => exact fun _ => (quiescent_iff.1 hQuiet).2.2
  | completion hQuiet => exact fun hDue => nomatch (quiescent_iff.1 hQuiet).2.1.symm.trans hDue

/-- Settles O51: at reset nothing is due; the bring-up flags no result; every later step keeps the services apart. -/
theorem servicesAreNeverDueTogether : Obligations.ServicesAreNeverDueTogether := by
  unfold Obligations.ServicesAreNeverDueTogether
  refine ⟨⟨fun _ => rfl, fun hDue => nomatch hDue⟩, fun s t hApart hStep => ⟨fun hDown => ?_, ?_⟩⟩
  · nomatch (step_broughtUp hStep).symm.trans hDown
  · cases hUp : s.broughtUp with
    | true => exact (runningStep_of_step hUp hStep).services_apart
    | false =>
      rw [step_bringUp hUp] at hStep
      cases hStep
      have hFlag : (bringUp s).adcifg = false := hApart.resultAfterLaunch hUp
      exact fun _ => by simp [adcEnabled, hFlag]

end Sys2Proof
end

section
/-!
SUPPORT. Who writes what: the configuration, the sample and the start flag over one step of a running core
(spec/10_state.md R20 to R24, R35, R37, spec/43_adc_controller.md R194).
-/

namespace Sys2Proof

open Sys2Proof.Machine Sys2Proof.Safety

/-! ## The configuration -/

/-- Two states with the same parameters, exported registers, interrupt enable and wait: what a command reads and writes
besides the selector, which has one value (R170 to R174, R47, R48). -/
structure SameController (s t : State) : Prop where
  params : t.params = s.params
  exported : exported t = exported s
  ie : t.ie = s.ie
  wait : t.wait = s.wait

theorem SameController.registers {s t : State} (h : SameController s t) :
    t.ccl = s.ccl ∧ t.cch = s.cch ∧ t.inctl = s.inctl ∧ t.sc = s.sc ∧ t.ae = s.ae :=
  ⟨congrArg Exported.ccl h.exported, congrArg Exported.cch h.exported, congrArg Exported.inctl h.exported,
    congrArg Exported.sc h.exported, congrArg Exported.ae h.exported⟩

/-- A command depends on the controller alone (R170 to R174). -/
theorem SameController.apply {s t : State} (h : SameController s t) (op v : Byte) :
    SameController (apply op v s) (apply op v t) := by
  obtain ⟨hCcl, hCch, hInctl, hSc, hAe⟩ := h.registers
  obtain ⟨hParams, hExported, hIe, hWait⟩ := h
  rcases opcode_cases op with rfl | rfl | rfl | rfl | hIgnored
  · constructor <;> simp [apply_opCcl, Machine.exported, *]
  · by_cases hSame : v &&& s.params.mCfg = s.cch &&& s.params.mCfg
    · rw [apply_opCch, apply_opCch, rerouteIfChanged_writeCch_same v s hSame,
        rerouteIfChanged_writeCch_same v t (by rw [hParams, hCch, hSame])]
      exact ⟨hParams, hExported, hIe, hWait⟩
    · rw [apply_opCch, apply_opCch, rerouteIfChanged_writeCch_changed v s hSame,
        rerouteIfChanged_writeCch_changed v t (by rwa [hParams, hCch])]
      constructor <;> simp [Machine.exported, *]
  · by_cases hSame : v = s.inctl
    · rw [apply_opInctl, apply_opInctl, hSame, rerouteIfChanged_writeInctl_same, ← hInctl,
        rerouteIfChanged_writeInctl_same]
      exact ⟨hParams, hExported, hIe, hWait⟩
    · rw [apply_opInctl, apply_opInctl, rerouteIfChanged_writeInctl_changed v s hSame,
        rerouteIfChanged_writeInctl_changed v t (by rwa [hInctl])]
      constructor <;> simp [Machine.exported, *]
  · rw [apply_opConv, apply_opConv]
    unfold startConversion
    rw [hParams, hCch]
    split_ifs <;> constructor <;> simp [Machine.exported, *]
  · rw [apply_ignored v s hIgnored, apply_ignored v t hIgnored]
    exact ⟨hParams, hExported, hIe, hWait⟩

/-- What the service of a count event leaves of the controller is what it found, or what the command it executed
leaves. -/
theorem CountServed.controller {s t : State} (h : CountServed s t) :
    SameController s t ∨
    (s.state = .rxEval ∧ ∃ v, (s.rxCount = 1 ∧ v = s.sr ∨ s.rxCount = 2 ∧ v = s.cmd1) ∧
      SameController (apply s.cmd0 v s) t) := by
  have hStored (v : Byte) : SameController s { s with cmd1 := v, rxCount := 2 } := ⟨rfl, rfl, rfl, rfl⟩
  cases h with
  | suspended hState hByte => exact .inr ⟨hState, _, hByte, (hStored _).apply s.cmd0 _⟩
  | executed hState hByte =>
    obtain ⟨hParams, hExported, hIe, hWait⟩ := (hStored _).apply s.cmd0 _
    exact .inr ⟨hState, _, hByte, hParams, hExported, hIe, hWait⟩
  | _ => exact .inl ⟨rfl, rfl, rfl, rfl⟩

/-- A step of a running core leaves the configuration, or serves a count event in state 8 and leaves what the command
leaves. -/
theorem RunningStep.configuration {s t : State} (h : RunningStep s t) :
    (t.ccl = s.ccl ∧ t.cch = s.cch ∧ t.inctl = s.inctl ∧ t.ie = s.ie ∧ t.ae = s.ae) ∨
    (transportEnabled s = true ∧ s.sttifg = false ∧ s.cntifg = true ∧ s.state = .rxEval ∧
      ∃ v, (s.rxCount = 1 ∧ v = s.sr ∨ s.rxCount = 2 ∧ v = s.cmd1) ∧ SameController (apply s.cmd0 v s) t) := by
  cases h with
  | transport hDue hServe =>
    rcases transportService_inv hDue hServe with ⟨_, rfl⟩ | ⟨hNoStart, hCounted, hServed⟩
    · exact .inl ⟨rfl, rfl, rfl, rfl, rfl⟩
    · rcases hServed.controller with hSame | ⟨hState, v, hByte, hCommand⟩
      · obtain ⟨hCcl, hCch, hInctl, _, hAe⟩ := hSame.registers
        exact .inl ⟨hCcl, hCch, hInctl, hSame.ie, hAe⟩
      · exact .inr ⟨hDue, hNoStart, hCounted, hState, v, hByte, hCommand⟩
  | _ => exact .inl ⟨rfl, rfl, rfl, rfl, rfl⟩

/-- A masked write leaves the bits outside the mask (R171, R172). -/
theorem mergeBits_unmasked (mask old new : Byte) : mergeBits mask old new &&& ~~~mask = old &&& ~~~mask := by
  rw [masked_eq_iff]
  intro k hOutside
  have hk : k < 8 := BitVec.lt_of_getLsbD hOutside
  have hUnmasked : mask.getLsbD k = false := by simpa [hk] using hOutside
  rw [mergeBits_getLsbD _ _ _ _ hk, hUnmasked, if_neg Bool.false_ne_true]

/-- No command changes an unnamed bit of `CCL` or `CCH` (R171, R172). -/
theorem apply_unnamed (op v : Byte) (s : State) :
    (apply op v s).ccl &&& ~~~s.params.mDF = s.ccl &&& ~~~s.params.mDF ∧
      (apply op v s).cch &&& ~~~s.params.mCfg = s.cch &&& ~~~s.params.mCfg := by
  rcases apply_cases op v s with ⟨_, h⟩ | ⟨_, h⟩ | ⟨_, h⟩ | ⟨_, _, h⟩ | ⟨_, _, h⟩ | h
  · rw [h]; exact ⟨mergeBits_unmasked _ _ _, rfl⟩
  · rw [h]; exact ⟨rfl, mergeBits_unmasked _ _ _⟩
  · rw [h]; exact ⟨rfl, rfl⟩
  · rw [h, startConversion_frame]; exact ⟨rfl, rfl⟩
  · rw [h]; exact ⟨rfl, rfl⟩
  · rw [h]; exact ⟨rfl, rfl⟩

/-- Settles O42: only a command writes the configuration, and it leaves the unnamed bits. -/
theorem unnamedBitsNeverChange : Obligations.UnnamedBitsNeverChange := by
  unfold Obligations.UnnamedBitsNeverChange
  intro s t hUp hStep
  have hRun := runningStep_of_step hUp hStep
  obtain ⟨hBroughtUp, hTie, hParams⟩ := hRun.constants
  rcases hRun.configuration with ⟨hCcl, hCch, _⟩ | ⟨_, _, _, _, v, _, hCommand⟩
  · exact ⟨by rw [hCcl], by rw [hCch], hTie, hParams, hBroughtUp.trans hUp⟩
  · obtain ⟨hCcl, hCch⟩ := apply_unnamed s.cmd0 v s
    obtain ⟨hCcl', hCch', _⟩ := hCommand.registers
    exact ⟨by rw [hCcl', hCcl], by rw [hCch', hCch], hTie, hParams, hBroughtUp.trans hUp⟩

/-- Each configuration register is written under the opcode that names it, `IE` with `CCH`, the routing with `CCH` or
`INCTL` (R171 to R173). -/
theorem apply_writers (op v : Byte) (s : State) :
    ((apply op v s).ccl ≠ s.ccl → op = opCcl) ∧ ((apply op v s).cch ≠ s.cch → op = opCch) ∧
    ((apply op v s).ie ≠ s.ie → op = opCch) ∧ ((apply op v s).inctl ≠ s.inctl → op = opInctl) ∧
    ((apply op v s).ae ≠ s.ae → op = opCch ∨ op = opInctl) := by
  rcases apply_cases op v s with ⟨hOp, h⟩ | ⟨hOp, h⟩ | ⟨hOp, h⟩ | ⟨_, _, h⟩ | ⟨_, _, h⟩ | h
  · rw [h]; simp [hOp]
  · rw [h]; simp [hOp]
  · rw [h]; simp [hOp]
  · rw [h, startConversion_frame]; simp
  · rw [h]; simp
  · rw [h]; simp

/-- Settles O44: under the invariant a command is the second byte's, and each register is written by its opcode. -/
theorem configurationIsWrittenOnlyByCommands : Obligations.ConfigurationIsWrittenOnlyByCommands := by
  unfold Obligations.ConfigurationIsWrittenOnlyByCommands
  intro s t hInv hUp hStep
  rcases (runningStep_of_step hUp hStep).configuration with
    ⟨hCcl, hCch, hInctl, hIe, hAe⟩ | ⟨hDue, hNoStart, hCounted, hState, v, hByte, hCommand⟩
  · simp [hCcl, hCch, hInctl, hIe, hAe]
  · obtain ⟨hWait, hTie, _⟩ := transportEnabled_iff.1 hDue
    have hRoom : s.rxCount < 2 := hInv.room (.inr hState) hWait
    have hSecond : s.rxCount = 1 := by omega
    obtain ⟨hCcl, hCch, hInctl, _, hAe⟩ := hCommand.registers
    rw [hCcl, hCch, hInctl, hCommand.ie, hAe]
    exact ⟨fun _ => ⟨⟨hUp, hTie, hWait, hNoStart, hCounted⟩, hState, hSecond⟩, apply_writers s.cmd0 v s⟩

/-! ## The sample and the start flag -/

/-- Settles O43: the two copies write the sample and clear the flag; every other step leaves the sample, and none of
them clears the flag. -/
theorem sampleIsWrittenOnlyByTheCopies : Obligations.SampleIsWrittenOnlyByTheCopies := by
  unfold Obligations.SampleIsWrittenOnlyByTheCopies
  intro s t hUp hStep
  cases runningStep_of_step hUp hStep with
  | waitDone hDue =>
    obtain ⟨hWait, hFlag⟩ := waitDoneEnabled_iff.1 hDue
    exact ⟨fun _ => ⟨hFlag, rfl, rfl⟩, fun _ _ => ⟨rfl, .inl hWait⟩⟩
  | adc _ hDue =>
    obtain ⟨hFlag, hIe, _⟩ := adcEnabled_iff.1 hDue
    exact ⟨fun _ => ⟨hFlag, rfl, rfl⟩, fun _ _ => ⟨rfl, .inr hIe⟩⟩
  | transport _ hServe =>
    rw [transportService_frame hServe]
    exact ⟨fun hChanged => absurd rfl hChanged, fun hFlag hCleared => nomatch hFlag.symm.trans hCleared⟩
  | completion => exact ⟨fun hChanged => absurd rfl hChanged, fun _ hCleared => nomatch hCleared⟩
  | _ => exact ⟨fun hChanged => absurd rfl hChanged, fun hFlag hCleared => nomatch hFlag.symm.trans hCleared⟩

/-- Settles O45: `Start` alone sets the flag, and of the transport services only that of a start clears it. -/
theorem startFlagIsClearedOnlyByAddrCount : Obligations.StartFlagIsClearedOnlyByAddrCount := by
  unfold Obligations.StartFlagIsClearedOnlyByAddrCount
  intro s t hStep
  have hKeeps {u : State} (hSame : u.sttifg = s.sttifg) :
      (s.sttifg = false → u.sttifg = true → ∃ es, s.events = .start :: es) ∧
      (s.sttifg = true → u.sttifg = false → s.wait = false ∧ s.tie = true ∧ u.state = .addrMatch ∧ u.cnt = 8) :=
    ⟨fun hClear hSet => (nomatch hClear.symm.trans (hSame.symm.trans hSet)),
      fun hSet hClear => nomatch hSet.symm.trans (hSame.symm.trans hClear)⟩
  cases hUp : s.broughtUp with
  | false =>
    rw [step_bringUp hUp] at hStep
    cases hStep
    exact hKeeps rfl
  | true =>
    cases runningStep_of_step hUp hStep with
    | transport hDue hServe =>
      rcases transportService_inv hDue hServe with ⟨hStart, rfl⟩ | ⟨hNoStart, _, hServed⟩
      · obtain ⟨hWait, hTie, _⟩ := transportEnabled_iff.1 hDue
        exact ⟨fun hNoStart => (nomatch hStart.symm.trans hNoStart), fun _ _ => ⟨hWait, hTie, rfl, rfl⟩⟩
      · exact hKeeps ((hServed.flags hNoStart).1.trans hNoStart.symm)
    | start _ hEvents => exact ⟨fun _ _ => ⟨_, hEvents⟩, fun _ hClear => nomatch hClear⟩
    | _ => exact hKeeps rfl

/-- A command starts a conversion exactly if it is a `CONVSTART`; any other leaves a stopped converter stopped (R191,
R194). -/
theorem apply_stopped (op v : Byte) {s : State} (hNoStart : s.sc = false) (hNoWait : s.wait = false) :
    ((apply op v s).sc = false ∧ (apply op v s).wait = false) ∨
    (op = opConv ∧ bitZero v = true ∧ (apply op v s).sc = true) := by
  rcases apply_cases op v s with ⟨_, h⟩ | ⟨_, h⟩ | ⟨_, h⟩ | ⟨hOp, hBit, h⟩ | ⟨_, _, h⟩ | h
  · rw [h]; exact .inl ⟨hNoStart, hNoWait⟩
  · rw [h]; exact .inl ⟨hNoStart, hNoWait⟩
  · rw [h]; exact .inl ⟨hNoStart, hNoWait⟩
  · rw [h, startConversion_frame]; exact .inr ⟨hOp, hBit, rfl⟩
  · rw [h]; exact .inl ⟨rfl, hNoWait⟩
  · rw [h]; exact .inl ⟨hNoStart, hNoWait⟩

/-- Settles O46: with no flag the copies are not due and with `SC = 0` no completion comes, so the sample is kept; only
a command touches the start bit. -/
theorem stoppedConverterNeverUpdatesTheSample : Obligations.StoppedConverterNeverUpdatesTheSample := by
  unfold Obligations.StoppedConverterNeverUpdatesTheSample
  rintro s t hInv hUp ⟨hNoConversion, hNoFlag, hNoWait⟩ hStep
  cases runningStep_of_step hUp hStep with
  | waitDone hDue => nomatch (waitDoneEnabled_iff.1 hDue).1.symm.trans hNoWait
  | adc _ hDue => nomatch (adcEnabled_iff.1 hDue).1.symm.trans hNoFlag
  | completion _ _ hConverting => nomatch hConverting.symm.trans hNoConversion
  | transport hDue hServe =>
    have hFrame := transportService_frame hServe
    have hSample : t.sample = s.sample := by rw [hFrame]
    have hFlag : t.adcifg = false := by rw [hFrame]; exact hNoFlag
    refine ⟨hSample, ?_⟩
    rcases transportService_inv hDue hServe with ⟨_, rfl⟩ | ⟨_, _, hServed⟩
    · exact .inl ⟨hNoConversion, hNoFlag, hNoWait⟩
    rcases hServed.controller with hSame | ⟨hState, v, hByte, hCommand⟩
    · obtain ⟨_, _, _, hSc, _⟩ := hSame.registers
      exact .inl ⟨hSc.trans hNoConversion, hFlag, hSame.wait.trans hNoWait⟩
    · obtain ⟨_, _, _, hSc, _⟩ := hCommand.registers
      rcases apply_stopped s.cmd0 v hNoConversion hNoWait with ⟨hStopped, hReturns⟩ | ⟨hOp, hBit, hStarted⟩
      · exact .inl ⟨hSc.trans hStopped, hFlag, hCommand.wait.trans hReturns⟩
      · have hRoom : s.rxCount < 2 := hInv.room (.inr hState) hNoWait
        obtain ⟨hSecond, rfl⟩ : s.rxCount = 1 ∧ v = s.sr := hByte.resolve_right (by omega)
        exact .inr ⟨hState, hSecond, hOp, hBit, hSc.trans hStarted⟩
  | _ => exact ⟨rfl, .inl ⟨hNoConversion, hNoFlag, hNoWait⟩⟩

end Sys2Proof
end

section
/-!
SUPPORT. The invariants of the reachable states (spec/10_state.md R53): what each move of the weaker discipline keeps
(spec/70_reset_and_hazards.md R252), and what prompt service adds to it.
-/

namespace Sys2Proof.Safety

open Sys2Proof.Machine

/-! ## The invariant of the weaker discipline -/

/-- The invariant reads neither the start flag, nor the controller but the selector, nor the schedule (R53). -/
theorem FreeInv.adcLatch {s : State} (h : FreeInv s) (v : Half) : FreeInv (adcLatch v s) := { h with }

theorem FreeInv.adcService {s : State} (h : FreeInv s) : FreeInv (adcService s) := { h with }

theorem FreeInv.startEvent {s : State} (h : FreeInv s) : FreeInv (startEvent s) := { h with }

theorem FreeInv.bringUpWith {s : State} (h : FreeInv s) (l : Launch) : FreeInv (bringUpWith l s) := { h with }

theorem FreeInv.withEvents {s : State} (h : FreeInv s) (es : List Event) : FreeInv { s with events := es } := { h with }

/-- A pulse counts down, and raises the flag when nothing is left (R122). -/
theorem FreeInv.clockEvent {s : State} (h : FreeInv s) (m : Level) : FreeInv (clockEvent m s) := by
  rcases Nat.eq_zero_or_pos s.cnt with hIdle | hArmed
  · rw [clockEvent_idle m s hIdle]
    exact { h with }
  · rw [clockEvent_shifting m s hArmed]
    refine { h with cnt_le := (Nat.sub_le _ _).trans h.cnt_le, waiting := fun hWait => ?_, counted := fun hFlag => ?_ }
    · obtain ⟨_, _, _, hIdle, _⟩ := h.waiting hWait
      omega
    · by_contra hLeft
      have hCounted : s.cntifg = true := by simpa [hLeft] using hFlag
      have hIdle := h.counted hCounted
      omega

/-- After a service that began no wait: the counts in range, in the states that use them, and the line released in
state 8. -/
theorem freeInv_of_served {t : State} (hWait : t.wait = false) (hFlag : t.cntifg = false) (hRx : t.rxCount < 2)
    (hRxState : 0 < t.rxCount → t.state = .rxByte ∨ t.state = .rxEval) (hTx : t.txCount ≤ 2)
    (hTxState : 0 < t.txCount → t.state = .ackWait ∨ t.state = .ackEval) (hCnt : t.cnt ≤ 8)
    (hReceiving : t.state = .rxEval → t.oe = false) : FreeInv t where
  rx_le := hRx.le
  tx_le := hTx
  cnt_le := hCnt
  waiting hWaiting := nomatch hWait.symm.trans hWaiting
  rx_state := hRxState
  tx_state := hTxState
  selector := rfl
  counted hCounted := nomatch hFlag.symm.trans hCounted
  receiving := hReceiving
  room _ _ := hRx

/-- The case of an empty context outside the receive path. -/
theorem freeInv_of_emptyContext {t : State} (hWait : t.wait = false) (hFlag : t.cntifg = false) (hRx : t.rxCount = 0)
    (hTx : t.txCount = 0) (hCnt : t.cnt ≤ 8) (hState : t.state ≠ .rxEval) : FreeInv t :=
  freeInv_of_served hWait hFlag (by omega) (fun hPos => absurd hRx hPos.ne') (by omega)
    (fun hPos => absurd hTx hPos.ne') hCnt (fun hEval => absurd hEval hState)

/-- The end of a wait, like that of a transaction, leaves the context empty (R196). -/
theorem FreeInv.waitDone {s : State} (h : FreeInv s) : FreeInv (waitDone s) :=
  freeInv_of_emptyContext rfl rfl rfl rfl h.cnt_le nofun

theorem FreeInv.rxCount_eq_zero {s : State} (h : FreeInv s) (hByte : s.state ≠ .rxByte) (hEval : s.state ≠ .rxEval) :
    s.rxCount = 0 := by
  by_contra hCount
  exact (h.rx_state (Nat.pos_of_ne_zero hCount)).elim hByte hEval

theorem FreeInv.txCount_eq_zero {s : State} (h : FreeInv s) (hWait : s.state ≠ .ackWait) (hEval : s.state ≠ .ackEval) :
    s.txCount = 0 := by
  by_contra hCount
  exact (h.tx_state (Nat.pos_of_ne_zero hCount)).elim hWait hEval

/-- Of the commands only a `CONVSTART` begins a wait (R193). -/
theorem apply_waits {op v : Byte} {s : State} (hNoWait : s.wait = false) (hWaits : (apply op v s).wait = true) :
    op = opConv ∧ bitZero v = true := by
  have hKept (h : (apply op v s).wait = s.wait) : False := nomatch hNoWait.symm.trans (h.symm.trans hWaits)
  rcases apply_cases op v s with ⟨_, h⟩ | ⟨_, h⟩ | ⟨_, h⟩ | ⟨hOp, hBit, _⟩ | ⟨_, _, h⟩ | h
  · exact (hKept (by rw [h])).elim
  · exact (hKept (by rw [h])).elim
  · exact (hKept (by rw [h])).elim
  · exact ⟨hOp, hBit⟩
  · exact (hKept (by rw [h]; rfl)).elim
  · exact (hKept (by rw [h])).elim

/-- A wait begins with the count event pending, the whole `CONVSTART` in the buffer and the line released (R53 (c)). -/
theorem FreeInv.suspended {s : State} {v : Byte} (h : FreeInv s) (hWait : s.wait = false) (hFlag : s.cntifg = true)
    (hState : s.state = .rxEval) (hWaits : (apply s.cmd0 v { s with cmd1 := v, rxCount := 2 }).wait = true) :
    FreeInv (apply s.cmd0 v { s with cmd1 := v, rxCount := 2 }) := by
  obtain ⟨hOp, hBit⟩ := apply_waits (s := { s with cmd1 := v, rxCount := 2 }) hWait hWaits
  have hTx := h.txCount_eq_zero (by rw [hState]; decide) (by rw [hState]; decide)
  rw [apply_frame]
  exact
    { rx_le := le_rfl
      tx_le := h.tx_le
      cnt_le := h.cnt_le
      waiting := fun _ => ⟨hState, rfl, hFlag, h.counted hFlag, h.receiving hState, hOp, hBit⟩
      rx_state := fun _ => .inr hState
      tx_state := fun hPos => absurd hTx hPos.ne'
      selector := rfl
      counted := h.counted
      receiving := h.receiving
      room := fun _ hNoWait => nomatch hWaits.symm.trans hNoWait }

/-- The service of a count event keeps the invariant, state by state (R153). -/
theorem FreeInv.countServed {s t : State} (h : FreeInv s) (hWait : s.wait = false) (hFlag : s.cntifg = true)
    (hServed : CountServed s t) : FreeInv t := by
  have hCnt : s.cnt ≤ 8 := h.cnt_le
  have hNoRx (hByte : s.state ≠ .rxByte) (hEval : s.state ≠ .rxEval) : s.rxCount = 0 := h.rxCount_eq_zero hByte hEval
  have hNoTx (hAckWait : s.state ≠ .ackWait) (hAckEval : s.state ≠ .ackEval) : s.txCount = 0 :=
    h.txCount_eq_zero hAckWait hAckEval
  cases hServed with
  | idle hState =>
    exact freeInv_of_emptyContext hWait rfl (hNoRx (by simp [hState]) (by simp [hState]))
      (hNoTx (by simp [hState]) (by simp [hState])) hCnt nofun
  | addrCount hState =>
    exact freeInv_of_emptyContext hWait rfl (hNoRx (by simp [hState]) (by simp [hState]))
      (hNoTx (by simp [hState]) (by simp [hState])) le_rfl nofun
  | ownWrite hState | ownRead hState | foreign hState =>
    exact freeInv_of_emptyContext hWait rfl (hNoRx (by simp [hState]) (by simp [hState]))
      (hNoTx (by simp [hState]) (by simp [hState])) Nat.one_le_ofNat nofun
  | rxByte hState =>
    have hTx : s.txCount = 0 := hNoTx (by simp [hState]) (by simp [hState])
    exact freeInv_of_served hWait rfl (h.room (.inl hState) hWait) (fun _ => .inr rfl) h.tx_le
      (fun hPos => absurd hTx hPos.ne') le_rfl (fun _ => rfl)
  | firstByte hState =>
    have hTx : s.txCount = 0 := hNoTx (by simp [hState]) (by simp [hState])
    exact freeInv_of_served hWait rfl Nat.one_lt_two (fun _ => .inl rfl) h.tx_le (fun hPos => absurd hTx hPos.ne')
      Nat.one_le_ofNat nofun
  | suspended hState _ hWaits => exact h.suspended hWait hFlag hState hWaits
  | executed _ _ hReturns =>
    exact freeInv_of_emptyContext hReturns rfl rfl rfl (by rw [apply_frame]; exact hCnt) nofun
  | surplus | declined | abort => exact freeInv_of_emptyContext hWait rfl rfl rfl hCnt nofun
  | load hState =>
    have hStates : s.state = .txByte ∨ s.state = .ackEval := hState.imp_right And.left
    have hRx : s.rxCount = 0 := by
      rcases hStates with hState | hState <;> exact hNoRx (by simp [hState]) (by simp [hState])
    have hTx : (if s.txCount < 2 then s.txCount + 1 else s.txCount) ≤ 2 := by
      have hRange : s.txCount ≤ 2 := h.tx_le
      split <;> omega
    exact freeInv_of_served hWait rfl (by rw [hRx]; decide) (fun hPos => absurd hRx hPos.ne') hTx (fun _ => .inl rfl)
      le_rfl nofun
  | ackWait hState =>
    have hRx : s.rxCount = 0 := hNoRx (by simp [hState]) (by simp [hState])
    exact freeInv_of_served hWait rfl (by rw [hRx]; decide) (fun hPos => absurd hRx hPos.ne') h.tx_le
      (fun _ => .inr rfl) Nat.one_le_ofNat nofun

/-- A transport service keeps the invariant. -/
theorem FreeInv.transportService {s t : State} (h : FreeInv s) (hDue : transportEnabled s = true)
    (hServe : transportService s = .next t) : FreeInv t := by
  obtain ⟨hWait, _, _⟩ := transportEnabled_iff.1 hDue
  rcases transportService_inv hDue hServe with ⟨_, rfl⟩ | ⟨_, hCounted, hServed⟩
  · exact freeInv_of_emptyContext hWait rfl rfl rfl le_rfl nofun
  · exact h.countServed hWait hCounted hServed

/-- Every move of the weaker discipline keeps the invariant (R252). -/
theorem FreeInv.freeStep {s t : State} (h : FreeInv s) (hMove : FreeStep s t) : FreeInv t := by
  cases hMove with
  | event e hTaken =>
    rcases takeEvent_cases hTaken with ⟨_, rfl⟩ | ⟨_, rfl⟩ | ⟨m, _, rfl⟩ | ⟨v, _, _, rfl⟩
    · exact h.startEvent
    · exact h
    · exact h.clockEvent m
    · exact h.adcLatch v
  | waitDone => exact h.waitDone
  | transport hDue hServe => exact h.transportService hDue hServe
  | adc => exact h.adcService

/-! ## What prompt service adds -/

/-- Between services no flag of the transport interrupt is set (R14). -/
theorem Quiescent.flags {s : State} (h : Quiescent s) (hWait : s.wait = false) (hTie : s.tie = true) :
    s.sttifg = false ∧ s.cntifg = false := by
  obtain ⟨_, hNoTransport, _⟩ := quiescent_iff.1 h
  simpa [transportEnabled, hWait, hTie] using hNoTransport

/-- The engine is armed as the new state says once a count event has been served (R53 (d)). -/
theorem PromptInv.armed_of_countServed {s t : State} (h : PromptInv s) (hWait : s.wait = false)
    (hFlag : s.cntifg = true) (hServed : CountServed s t) (hReturns : t.wait = false) : t.cntifg = false ∧ Armed t := by
  obtain ⟨hNotIdle, hNotAddrCount⟩ := h.pending hWait hFlag
  have hCnt : s.cnt = 0 := h.counted hFlag
  cases hServed with
  | idle hState => exact absurd hState hNotIdle
  | addrCount hState => exact absurd hState hNotAddrCount
  | ownWrite | ownRead | foreign | firstByte | ackWait => exact ⟨rfl, rfl⟩
  | rxByte | load => exact ⟨rfl, Nat.one_le_ofNat, le_rfl⟩
  | suspended _ _ hWaits => nomatch hWaits.symm.trans hReturns
  | executed => exact ⟨rfl, by rw [apply_frame]; exact hCnt, rfl⟩
  | surplus | declined | abort => exact ⟨rfl, hCnt, rfl⟩

/-- Bits are left only in a state that waits for a count event (R53 (d)). -/
theorem Armed.state_ne {s : State} (h : Armed s) (hCnt : 0 < s.cnt) : s.state ≠ .idle ∧ s.state ≠ .addrCount := by
  unfold Armed at h
  cases hq : s.state <;> simp only [hq] at h <;> simp
  omega

/-- A pulse that is not the last leaves the engine armed for the same event (R122). -/
theorem Armed.of_pulse {s t : State} (h : Armed s) (hState : t.state = s.state) (hLess : t.cnt = s.cnt - 1)
    (hLeft : t.cnt ≠ 0) : Armed t := by
  unfold Armed at h ⊢
  rw [hState]
  cases hq : s.state <;> simp only [hq] at h ⊢ <;> omega

/-- The invariant after a step that leaves no count event pending, unless it waits. -/
theorem promptInv_of_served {t : State} (hFree : FreeInv t) (hListening : t.broughtUp = true → t.tie = true)
    (hEngine : t.wait = false → t.cntifg = false ∧ Armed t) : PromptInv t :=
  ⟨hFree, hListening, fun hReturns _ => (hEngine hReturns).2,
    fun hReturns hFlag => nomatch (hEngine hReturns).1.symm.trans hFlag⟩

/-- Every step of a running core keeps the invariant of prompt service (R53). -/
theorem PromptInv.runningStep {s t : State} (h : PromptInv s) (hUp : s.broughtUp = true) (hFree : FreeInv t)
    (hRun : RunningStep s t) : PromptInv t := by
  obtain ⟨hBroughtUp, hTie, _⟩ := hRun.constants
  have hListening : t.broughtUp = true → t.tie = true := fun _ => hTie.trans (h.listening hUp)
  cases hRun with
  | waitDone hDue =>
    obtain ⟨hWait, _⟩ := waitDoneEnabled_iff.1 hDue
    obtain ⟨_, _, _, hCnt, _⟩ := h.waiting hWait
    exact promptInv_of_served hFree hListening fun _ => ⟨rfl, hCnt, rfl⟩
  | transport hDue hServe =>
    obtain ⟨hWait, _, _⟩ := transportEnabled_iff.1 hDue
    refine promptInv_of_served hFree hListening fun hReturns => ?_
    rcases transportService_inv hDue hServe with ⟨_, rfl⟩ | ⟨_, hFlag, hServed⟩
    · exact ⟨rfl, Nat.one_le_ofNat, le_rfl⟩
    · exact h.armed_of_countServed hWait hFlag hServed hReturns
  | adc | start | ignoredPulse | completion | nothing => exact ⟨hFree, hListening, h.armed, h.pending⟩
  | pulse hQuiet _ hCnt =>
    have hWait : s.wait = false := by
      by_contra hWaits
      obtain ⟨_, _, _, hIdle, _⟩ := h.waiting (by simpa using hWaits)
      omega
    obtain ⟨_, hFlag⟩ := hQuiet.flags hWait (h.listening hUp)
    have hArmed := h.armed hWait hFlag
    refine ⟨hFree, hListening, fun _ hNoEvent => hArmed.of_pulse rfl rfl fun hLast => ?_,
      fun _ _ => hArmed.state_ne hCnt⟩
    nomatch (if_pos hLast).symm.trans hNoEvent

end Sys2Proof.Safety

namespace Sys2Proof

open Sys2Proof.Machine Sys2Proof.Safety

/-! ## The settled statements -/

/-- Settles O40: each move has its own lemma. -/
theorem freeInvariantSurvivesDelayedServices : Obligations.FreeInvariantSurvivesDelayedServices := by
  unfold Obligations.FreeInvariantSurvivesDelayedServices
  exact fun s t hInv hMove => hInv.freeStep hMove

/-- Settles O38: a step is a move of the weaker discipline, which keeps its part of the invariant; the arming of the
engine is kept by prompt service. -/
theorem everyStepKeepsTheInvariant : Obligations.EveryStepKeepsTheInvariant := by
  unfold Obligations.EveryStepKeepsTheInvariant
  intro s t hInv hStep
  cases hUp : s.broughtUp with
  | false =>
    rw [step_bringUp hUp] at hStep
    cases hStep
    exact ⟨hInv.toFreeInv.bringUpWith _, fun _ => rfl, hInv.armed, hInv.pending⟩
  | true =>
    have hFree : FreeInv t := by
      rcases stepIsAMoveOfTheWeakerDiscipline s t hStep with ⟨hDown, _⟩ | rfl | hMove | ⟨e, es, _, hMove⟩
      · nomatch hUp.symm.trans hDown
      · exact hInv.toFreeInv
      · exact hInv.toFreeInv.freeStep hMove
      · exact (hInv.toFreeInv.withEvents es).freeStep hMove
    exact hInv.runningStep hUp hFree (runningStep_of_step hUp hStep)

/-- Settles O39: the first three and the last two are fields; (d) is the arming of the engine, (e) that the completion
interrupt is not due. -/
theorem invariantGivesTheSpecsList : Obligations.InvariantGivesTheSpecsList := by
  unfold Obligations.InvariantGivesTheSpecsList
  intro s hInv
  refine ⟨⟨hInv.rx_le, hInv.tx_le⟩, hInv.cnt_le, hInv.waiting, fun hQuiet hWait hTie => ?_,
    fun hQuiet hWait hFlag => ?_, ⟨hInv.rx_state, hInv.tx_state⟩, hInv.selector⟩
  · obtain ⟨hNoStart, hNoCount⟩ := hQuiet.flags hWait hTie
    have hArmed := hInv.armed hWait hNoCount
    unfold Armed at hArmed
    cases hState : s.state <;> simp_all
  · obtain ⟨_, _, hNoAdc⟩ := quiescent_iff.1 hQuiet
    simpa [adcEnabled, hWait, hFlag] using hNoAdc

/-- After reset the core is idle with empty counters, so the invariant holds by computation. -/
theorem promptInv_reset : PromptInv State.reset :=
  ⟨freeInv_of_emptyContext rfl rfl rfl rfl (Nat.zero_le _) nofun, nofun, fun _ _ => ⟨rfl, rfl⟩, nofun⟩

/-- Settles O37: the bring-up writes the transport enable and registers that the invariant does not read. -/
theorem invariantHoldsAtResetAndLaunch : Obligations.InvariantHoldsAtResetAndLaunch := by
  unfold Obligations.InvariantHoldsAtResetAndLaunch
  exact ⟨promptInv_reset, fun l =>
    ⟨promptInv_reset.toFreeInv.bringUpWith l, fun _ => rfl, promptInv_reset.armed, promptInv_reset.pending⟩⟩

end Sys2Proof
end

section
/-!
SUPPORT. Several pulses in a row (spec/40_shift_engine.md R121 to R123): the levels the line carries, the byte they
leave in `SR`, and the byte-level law.
-/

namespace Sys2Proof

open Sys2Proof.Machine

/-- The levels the line carries while the master contributes `ms`, from an engine with output enable `oe` and `SR = sr`
and enough bits armed: the wired-AND of each pulse (R121), `SR` shifting under it (R122). -/
def lineLevels (oe : Level) : Byte → List Level → List Level
  | _, [] => []
  | sr, m :: ms =>
    let l := m && !(oe && !sr.getLsbD 7)
    l :: lineLevels oe (shiftIn sr l) ms

/-- With the line released it carries what the master sends. -/
theorem lineLevels_released (sr : Byte) (ms : List Level) : lineLevels false sr ms = ms := by
  induction ms generalizing sr with
  | nil => rfl
  | cons m ms ih => simp [lineLevels, ih]

/-- While the core drives, the line carries the wired-AND of `SR` and the master's byte. -/
theorem lineLevels_driven (sr b : Byte) : lineLevels true sr (byteBits b) = byteBits (sr &&& b) := by
  simp only [lineLevels, byteBits, shiftIn_getLsbD_succ, BitVec.getLsbD_and, Bool.true_and, Bool.not_not,
    Bool.and_comm, Nat.reduceLT]

/-- Eight levels shifted in make the byte they are the bits of, bit 7 first (R65, R122). -/
theorem foldl_shiftIn_byteBits (sr b : Byte) : (byteBits b).foldl shiftIn sr = b := by
  apply BitVec.eq_of_getLsbD_eq
  intro k hk
  interval_cases k <;>
    simp only [byteBits, List.foldl_cons, List.foldl_nil, shiftIn_getLsbD_succ, shiftIn_getLsbD_zero, Nat.reduceLT]

/-- Pulses up to the number of armed bits: each level is shifted in, and the last armed one raises `CNTIFG` (R121,
R122). -/
theorem clockAll_armed {ms : List Level} {s : State} (hArmed : 0 < s.cnt) (hLen : ms.length ≤ s.cnt) :
    clockAll ms s = { s with
      sr := (lineLevels s.oe s.sr ms).foldl shiftIn s.sr
      cnt := s.cnt - ms.length
      cntifg := if s.cnt = ms.length then true else s.cntifg
      levels := (lineLevels s.oe s.sr ms).reverse ++ s.levels } := by
  induction ms generalizing s with
  | nil => simp [clockAll, lineLevels, hArmed.ne']
  | cons m ms ih =>
    have hRest : ms.length ≤ s.cnt - 1 := by simp only [List.length_cons] at hLen; omega
    rw [clockAll, clockEvent_shifting m s hArmed, lineLevel_eq_and]
    rcases Nat.eq_zero_or_pos (s.cnt - 1) with hLast | hMore
    · have hNil : ms = [] := List.length_eq_zero_iff.1 (by omega)
      have hOne : s.cnt = 1 := by omega
      simp [hNil, clockAll, lineLevels, hOne]
    · rw [ih hMore hRest]
      have hCnt : s.cnt - 1 - ms.length = s.cnt - (ms.length + 1) := by omega
      have hFlag : s.cnt - 1 = ms.length ↔ s.cnt = ms.length + 1 := by omega
      simp [lineLevels, hCnt, hFlag, hMore.ne']

/-- Eight pulses receive the master's byte (R123). -/
theorem clockAll_receive {s : State} (b : Byte) (hCnt : s.cnt = 8) (hOe : s.oe = false) :
    clockAll (byteBits b) s = { s with
      sr := b, cnt := 0, cntifg := true, levels := (byteBits b).reverse ++ s.levels } := by
  have hLen : (byteBits b).length ≤ s.cnt := hCnt.ge
  rw [clockAll_armed (by omega) hLen, hOe, hCnt, lineLevels_released, foldl_shiftIn_byteBits]
  rfl

/-- Eight pulses send `SR`, the master pulling the bits of `b` low (R123). -/
theorem clockAll_send {s : State} (b : Byte) (hCnt : s.cnt = 8) (hOe : s.oe = true) :
    clockAll (byteBits b) s = { s with
      sr := s.sr &&& b, cnt := 0, cntifg := true, levels := (byteBits (s.sr &&& b)).reverse ++ s.levels } := by
  have hLen : (byteBits b).length ≤ s.cnt := hCnt.ge
  rw [clockAll_armed (by omega) hLen, hOe, hCnt, lineLevels_driven, foldl_shiftIn_byteBits]
  rfl

/-- One pulse carries and shifts in an acknowledgment bit (R123). -/
theorem clockAll_single {s : State} (m : Level) (hCnt : s.cnt = 1) :
    clockAll [m] s = { s with
      sr := shiftIn s.sr (lineLevel m s), cnt := 0, cntifg := true, levels := lineLevel m s :: s.levels } := by
  have hArmed : 0 < s.cnt := by omega
  rw [clockAll, clockAll, clockEvent_shifting m s hArmed, hCnt]
  rfl

/-- Settles O9: eight pulses by the law of the armed engine, the acknowledgment by a single one. -/
theorem eightPulsesMoveAByte : Obligations.EightPulsesMoveAByte := by
  unfold Obligations.EightPulsesMoveAByte
  intro s b
  refine ⟨clockAll_receive b, clockAll_send b, fun hCnt hOe hSr => ?_, fun hCnt hOe hSr => ?_, fun a hCnt hOe => ?_⟩
  · rw [clockAll_single true hCnt, lineLevel_eq_and, hOe, hSr]
    rfl
  · rw [clockAll_single true hCnt, lineLevel_eq_and, hOe, hSr]
    rfl
  · rw [clockAll_single a hCnt, lineLevel_released a s hOe]
    exact shiftIn_getLsbD_zero _ _

end Sys2Proof
end

section
/-!
SUPPORT. Runs of events under prompt service (spec/00_scope.md R14): how they compose, a run of pulses up to the count
event it raises, and the slots of a transaction (spec/30_encoding.md R90 to R94, R100).
-/

namespace Sys2Proof

open Sys2Proof.Machine Sys2Proof.Safety

/-! ## Composing runs -/

theorem macroRun_append {es : List Event} {s t : State} (h : macroRun es s = .next t) (fs : List Event) :
    macroRun (es ++ fs) s = macroRun fs t := by
  induction es generalizing s with
  | nil => cases h; rfl
  | cons e es ih =>
    rw [macroRun] at h
    rw [List.cons_append, macroRun]
    cases hStep : macroStep e s with
    | next u => rw [hStep] at h; exact ih h
    | fault r => rw [hStep] at h; cases h
    | refused r => rw [hStep] at h; cases h

theorem macroRun_singleton (e : Event) (s : State) : macroRun [e] s = macroStep e s := by
  rw [macroRun]
  cases macroStep e s <;> rfl

/-- The events lead from `s` to `t`, with the core free for the next one. -/
def Reaches (es : List Event) (s t : State) : Prop := macroRun es s = .next t ∧ Ready t

theorem Reaches.trans {es fs : List Event} {s t u : State} (h : Reaches es s t) (h' : Reaches fs t u) :
    Reaches (es ++ fs) s u :=
  ⟨(macroRun_append h.1 fs).trans h'.1, h'.2⟩

/-- A core is ready exactly if it runs, listens, and has no flag to serve (R14). -/
theorem ready_iff {s : State} : Ready s ↔ s.broughtUp = true ∧ s.tie = true ∧ s.wait = false ∧ s.sttifg = false ∧
    s.cntifg = false ∧ (s.ie = true → s.adcifg = false) := by
  constructor
  · rintro ⟨hUp, hTie, hWait, hQuiet⟩
    obtain ⟨hNoStart, hNoCount⟩ := Quiescent.flags hQuiet hWait hTie
    obtain ⟨_, _, hNoAdc⟩ := quiescent_iff.1 hQuiet
    exact ⟨hUp, hTie, hWait, hNoStart, hNoCount, fun hIe => by simpa [adcEnabled, hWait, hIe] using hNoAdc⟩
  · rintro ⟨hUp, hTie, hWait, hNoStart, hNoCount, hNoAdc⟩
    refine ⟨hUp, hTie, hWait, quiescent_iff.2 ⟨?_, ?_, ?_⟩⟩
    · simp [waitDoneEnabled, hWait]
    · simp [transportEnabled, hNoStart, hNoCount]
    · cases hIe : s.ie <;> simp [adcEnabled, hIe, hNoAdc]

/-! ## Pulses up to a count event -/

/-- Pulses that leave bits to shift raise no flag. -/
theorem ready_clockAll {s : State} (h : Ready s) {ms : List Level} (hLen : ms.length < s.cnt) :
    Ready (clockAll ms s) := by
  obtain ⟨hUp, hTie, hWait, hNoStart, hNoCount, hNoAdc⟩ := ready_iff.1 h
  rw [clockAll_armed (by omega) hLen.le, if_neg hLen.ne']
  exact ready_iff.2 ⟨hUp, hTie, hWait, hNoStart, hNoCount, hNoAdc⟩

/-- A run of pulses up to the count event is the pulses, and then what the last one makes due (R14, R122). -/
theorem macroRun_clocks {s : State} (h : Ready s) {ms : List Level} (hSome : ms ≠ []) (hLen : ms.length ≤ s.cnt) :
    macroRun (ms.map .clock) s = settle 2 (clockAll ms s) := by
  induction ms generalizing s with
  | nil => exact absurd rfl hSome
  | cons m ms ih =>
    cases hRest : ms with
    | nil => exact macroRun_singleton (.clock m) s
    | cons m' ms' =>
      have hMore : ms.length + 1 ≤ s.cnt := hLen
      have hPos : 0 < ms.length := by rw [hRest]; exact Nat.succ_pos _
      have hNext : Ready (clockAll [m] s) := ready_clockAll h (by simp only [List.length_singleton]; omega)
      have hCnt : (clockAll [m] s).cnt = s.cnt - 1 := by
        rw [clockAll_armed (by omega) (by simp only [List.length_singleton]; omega)]
        rfl
      have hFirst : macroRun [.clock m] s = .next (clockAll [m] s) :=
        (macroRun_singleton _ _).trans (settle_of_quiescent 2 hNext.quiet)
      rw [← hRest]
      exact (macroRun_append hFirst (ms.map .clock)).trans
        (ih hNext (by rw [hRest]; exact List.cons_ne_nil _ _) (by omega))

/-- Pulses that leave bits to shift only shift. -/
theorem reaches_clocks {s : State} (h : Ready s) {ms : List Level} (hLen : ms.length < s.cnt) :
    Reaches (ms.map .clock) s (clockAll ms s) := by
  refine ⟨?_, ready_clockAll h hLen⟩
  cases ms with
  | nil => rfl
  | cons m ms =>
    rw [macroRun_clocks h (List.cons_ne_nil _ _) hLen.le, settle_of_quiescent 2 (ready_clockAll h hLen).quiet]

/-- The last armed pulse makes the transport service due, and nothing else (R122, R217). -/
theorem transportEnabled_of_clocks {s : State} (h : Ready s) {ms : List Level} (hSome : ms ≠ [])
    (hLen : s.cnt = ms.length) : transportEnabled (clockAll ms s) = true := by
  have hPos : 0 < s.cnt := by rw [hLen]; exact List.length_pos_of_ne_nil hSome
  rw [clockAll_armed hPos hLen.ge, if_pos hLen]
  exact transportEnabled_iff.2 ⟨h.idle, h.listening, .inr rfl⟩

/-- A step that writes only the transport leaves a ready core ready, if it leaves no count event. -/
theorem ready_of_transport {s t : State} (h : Ready s) (hFrame : t = { s with
      state := t.state, direction := t.direction, rxCount := t.rxCount, txCount := t.txCount, cmd0 := t.cmd0,
      cmd1 := t.cmd1, sr := t.sr, cnt := t.cnt, oe := t.oe, levels := t.levels, cntifg := false }) : Ready t := by
  obtain ⟨hUp, hTie, hWait, hNoStart, _, hNoAdc⟩ := ready_iff.1 h
  rw [hFrame]
  exact ready_iff.2 ⟨hUp, hTie, hWait, hNoStart, rfl, hNoAdc⟩

/-- The pulses up to a count event and the step of the state that serves it (R140). -/
theorem reaches_served {s p u t : State} {q : StateId} {ms : List Level} (h : Ready s) (hSome : ms ≠ [])
    (hLen : s.cnt = ms.length) (hState : s.state = q) (hPulsed : clockAll ms s = p)
    (hExec : exec (stateInstr q) p = .next u) (hResult : { u with cntifg := false } = t) (hReady : Ready t) :
    Reaches (ms.map .clock) s t := by
  have hDue := transportEnabled_of_clocks h hSome hLen
  have hPos : 0 < s.cnt := by rw [hLen]; exact List.length_pos_of_ne_nil hSome
  obtain ⟨_, _, _, hNoStart, _⟩ := ready_iff.1 h
  have hFrame : p.state = s.state ∧ p.sttifg = s.sttifg := by
    rw [← hPulsed, clockAll_armed hPos hLen.ge]
    exact ⟨rfl, rfl⟩
  have hReturns : u.wait = false := by rw [← hReady.idle, ← hResult]
  have hServe := transportService_of_exec (hFrame.2.trans hNoStart) (hFrame.1.trans hState) hExec hReturns
  rw [hPulsed] at hDue
  refine ⟨?_, hReady⟩
  rw [macroRun_clocks h hSome hLen.ge, hPulsed, settle_of_internal 1 (enabledStep_transport.2 hDue) hServe, hResult,
    settle_of_quiescent 1 hReady.quiet]

/-! ## The slots of a transaction -/

/-- A start condition, served at once (R92, R141, R142). -/
theorem reaches_start {s : State} (h : Ready s) : Reaches [.start] s { s with
    direction := .write, rxCount := 0, txCount := 0, oe := false, cnt := 8, sttifg := false, cntifg := false,
    state := .addrMatch } := by
  obtain ⟨hUp, hTie, hWait, _, _, hNoAdc⟩ := ready_iff.1 h
  have hDue : transportEnabled (startEvent s) = true := transportEnabled_of_start hTie hWait rfl
  have hReady : Ready { s with
      direction := .write, rxCount := 0, txCount := 0, oe := false, cnt := 8, sttifg := false, cntifg := false,
      state := .addrMatch } := ready_iff.2 ⟨hUp, hTie, hWait, rfl, rfl, hNoAdc⟩
  have hServe := transportService_start (s := startEvent s) rfl hWait
  refine ⟨?_, hReady⟩
  rw [macroRun_singleton]
  exact (settle_of_internal 1 (enabledStep_transport.2 hDue) hServe).trans (settle_of_quiescent 1 hReady.quiet)

theorem byteBits_ne_nil (b : Byte) : byteBits b ≠ [] := List.cons_ne_nil _ _

section AddressByte

variable {s : State} (h : Ready s) (hState : s.state = .addrMatch) (hCnt : s.cnt = 8) (hOe : s.oe = false)
include h hState hCnt hOe

/-- The core's address with the write direction is acknowledged (R143). -/
theorem reaches_ownWrite : Reaches ((byteBits 0x16).map .clock) s { s with
    sr := 0x00, direction := .write, state := .rxByte, oe := true, cnt := 1, cntifg := false,
    levels := (byteBits 0x16).reverse ++ s.levels } :=
  reaches_served h (byteBits_ne_nil _) hCnt hState (clockAll_receive _ hCnt hOe) ((addressByteIsMatched _).1 rfl) rfl
    (ready_of_transport h rfl)

/-- The core's address with the read direction is acknowledged (R143). -/
theorem reaches_ownRead : Reaches ((byteBits 0x17).map .clock) s { s with
    sr := 0x00, direction := .read, state := .txByte, oe := true, cnt := 1, cntifg := false,
    levels := (byteBits 0x17).reverse ++ s.levels } :=
  reaches_served h (byteBits_ne_nil _) hCnt hState (clockAll_receive _ hCnt hOe) ((addressByteIsMatched _).2.1 rfl) rfl
    (ready_of_transport h rfl)

/-- Another device's address is declined (R143). -/
theorem reaches_foreign {b : Byte} (hWrite : b ≠ 0x16) (hRead : b ≠ 0x17) :
    Reaches ((byteBits b).map .clock) s { s with
      sr := 0xFF, state := .abort, oe := true, cnt := 1, cntifg := false,
      levels := (byteBits b).reverse ++ s.levels } :=
  reaches_served h (byteBits_ne_nil _) hCnt hState (clockAll_receive _ hCnt hOe)
    ((addressByteIsMatched _).2.2 hWrite hRead) rfl (ready_of_transport h rfl)

end AddressByte

/-- The pulse of a slot the core drives with all its bits equal to `a` (R127). -/
theorem clockAll_drives {s : State} (a : Level) (hCnt : s.cnt = 1) (hOe : s.oe = true)
    (hSr : s.sr = if a then 0xFF else 0x00) :
    clockAll [true] s = { s with cnt := 0, cntifg := true, levels := a :: s.levels } := by
  have hLevel : lineLevel true s = a := by rw [lineLevel_eq_and, hOe, hSr]; cases a <;> rfl
  have hShift : shiftIn s.sr a = s.sr := by rw [hSr]; cases a <;> rfl
  rw [clockAll_single true hCnt, hLevel, hShift]

section DrivenSlot

variable {s : State} (h : Ready s) (hCnt : s.cnt = 1) (hOe : s.oe = true)
include h hCnt hOe

/-- The acknowledgment slot before a received byte (R145). -/
theorem reaches_receive (hState : s.state = .rxByte) (hSr : s.sr = 0x00) : Reaches [.clock true] s { s with
    oe := false, cnt := 8, state := .rxEval, cntifg := false, levels := false :: s.levels } :=
  reaches_served (ms := [true]) h (List.cons_ne_nil _ _) hCnt hState (clockAll_drives false hCnt hOe hSr) rfl rfl
    (ready_of_transport h rfl)

/-- The acknowledgment slot before the first sent byte (R148). -/
theorem reaches_transmit (hState : s.state = .txByte) (hSr : s.sr = 0x00) (hTx : s.txCount = 0) :
    Reaches [.clock true] s { s with
      sr := readWindow 0 s, txCount := 1, oe := true, cnt := 8, state := .ackWait, cntifg := false,
      levels := false :: s.levels } := by
  refine reaches_served (ms := [true]) h (List.cons_ne_nil _ _) hCnt hState (clockAll_drives false hCnt hOe hSr)
    (congrArg Host.Outcome.next (txLoad_eq _)) ?_ (ready_of_transport h rfl)
  simp only [hTx, readWindow_eq]
  rfl

/-- The slot in which a declined address reads NACK (R154). -/
theorem reaches_abort (hState : s.state = .abort) (hSr : s.sr = 0xFF) : Reaches [.clock true] s { s with
    oe := false, cnt := 0, direction := .write, rxCount := 0, txCount := 0, state := .idle, cntifg := false,
    levels := true :: s.levels } :=
  reaches_served (ms := [true]) h (List.cons_ne_nil _ _) hCnt hState (clockAll_drives true hCnt hOe hSr) rfl rfl
    (ready_of_transport h rfl)

end DrivenSlot

/-- Settles O48: a start, the declined byte, and the slot that ends it. -/
theorem foreignAddressIsDeclined : Obligations.ForeignAddressIsDeclined := by
  unfold Obligations.ForeignAddressIsDeclined
  intro s b hReady hWrite hRead
  have hStart := reaches_start hReady
  have hByte := reaches_foreign hStart.2 rfl rfl rfl hWrite hRead
  have hRun := (hStart.trans (hByte.trans (reaches_abort hByte.2 rfl rfl rfl rfl))).1
  rw [List.reverse_append]
  exact hRun

end Sys2Proof
end

section
/-!
SUPPORT. The transactions (spec/30_encoding.md R92 to R94, spec/20_memory.md R62, R74): a write that executes its
command, a read of any length, and a read with a completion between its two loads.
-/

namespace Sys2Proof

open Sys2Proof.Machine Sys2Proof.Safety

/-! ## Write transactions -/

/-- The first payload byte is stored and acknowledged (R146, R147). -/
theorem reaches_opcode {s : State} (h : Ready s) (op : Byte) (hState : s.state = .rxEval) (hCnt : s.cnt = 8)
    (hOe : s.oe = false) (hRx : s.rxCount = 0) : Reaches ((byteBits op).map .clock) s { s with
      cmd0 := op, rxCount := 1, sr := 0x00, oe := true, cnt := 1, state := .rxByte, cntifg := false,
      levels := (byteBits op).reverse ++ s.levels } :=
  reaches_served h (byteBits_ne_nil _) hCnt hState (clockAll_receive _ hCnt hOe) (exec_rxEval_first hRx) rfl
    (ready_of_transport h rfl)

/-- A write transaction up to the slot of the value byte (R92, R93). -/
theorem reaches_value {s : State} (h : Ready s) (op : Byte) :
    Reaches (.start :: (writeSlot 0x16 ++ writeSlot op)) s { s with
      direction := .write, rxCount := 1, txCount := 0, cmd0 := op, sr := 0x00, oe := false, cnt := 8, sttifg := false,
      cntifg := false, state := .rxEval,
      levels := (byteBits 0x16 ++ [false] ++ byteBits op ++ [false]).reverse ++ s.levels } := by
  have hStart := reaches_start h
  have hAddress := hStart.trans (reaches_ownWrite hStart.2 rfl rfl rfl)
  have hFirst := hAddress.trans (reaches_receive hAddress.2 rfl rfl rfl rfl)
  have hOpcode := hFirst.trans (reaches_opcode hFirst.2 op rfl rfl rfl rfl)
  exact hOpcode.trans (reaches_receive hOpcode.2 rfl rfl rfl rfl)

/-- What the service of the second payload byte leaves: the controller as the command leaves it, no new bits armed,
the line released, and the core idle unless it waits (R146, R147, R193). -/
theorem CountServed.command {s t : State} (h : CountServed s t) (hState : s.state = .rxEval) (hRx : s.rxCount = 1)
    (hOe : s.oe = false) :
    SameController (apply s.cmd0 s.sr s) t ∧ t.cnt = s.cnt ∧ t.oe = false ∧ t.levels = s.levels ∧
      (t.wait = false → t.state = .idle) := by
  have hStored (v : Byte) : SameController s { s with cmd1 := v, rxCount := 2 } := ⟨rfl, rfl, rfl, rfl⟩
  have hValue {v : Byte} (hByte : s.rxCount = 1 ∧ v = s.sr ∨ s.rxCount = 2 ∧ v = s.cmd1) : v = s.sr :=
    (hByte.resolve_right (by omega)).2
  cases h with
  | suspended _ hByte hWaits =>
    obtain rfl := hValue hByte
    refine ⟨(hStored _).apply _ _, ?_, ?_, ?_, fun hReturns => nomatch hWaits.symm.trans hReturns⟩ <;> rw [apply_frame]
    exact hOe
  | executed _ hByte =>
    obtain rfl := hValue hByte
    obtain ⟨hParams, hExported, hIe, hWait⟩ := (hStored s.sr).apply s.cmd0 s.sr
    exact ⟨⟨hParams, hExported, hIe, hWait⟩, by rw [apply_frame], rfl, by rw [apply_frame], fun _ => rfl⟩
  | firstByte _ hCount | surplus _ hCount => omega
  | load hOther => simp [hState] at hOther
  | idle hOther | addrCount hOther | ownWrite hOther | ownRead hOther | foreign hOther | rxByte hOther | ackWait hOther
  | declined hOther | abort hOther => nomatch hState.symm.trans hOther

/-- A pulse with nothing armed and the line released returns the master's level (R121, R122). -/
theorem macroRun_ignoredPulse {s : State} (m : Level) (hQuiet : Quiescent s) (hCnt : s.cnt = 0) (hOe : s.oe = false) :
    macroRun [.clock m] s = .next { s with levels := m :: s.levels } := by
  have hQuiet' : Quiescent { s with levels := m :: s.levels } := hQuiet
  have hTaken : macroStep (.clock m) s = settle 2 (clockEvent m s) := rfl
  rw [macroRun_singleton, hTaken, clockEvent_idle m s hCnt, lineLevel_released m s hOe, settle_of_quiescent 2 hQuiet']

/-- The slot of the value byte, with whatever the command makes due after it (R146, R147, R193). -/
theorem macroRun_valueSlot {s : State} (h : Ready s) (v : Byte) (hState : s.state = .rxEval) (hCnt : s.cnt = 8)
    (hOe : s.oe = false) (hRx : s.rxCount = 1) :
    ∃ t, macroRun (writeSlot v) s = .next t ∧ exported t = exported (apply s.cmd0 v s) ∧
      t.ie = (apply s.cmd0 v s).ie ∧ Quiescent t ∧ t.levels = (byteBits v ++ [true]).reverse ++ s.levels ∧
      (t.wait = false → t.state = .idle) := by
  obtain ⟨_, _, _, hNoStart, _⟩ := ready_iff.1 h
  have hPulsed := clockAll_receive v hCnt hOe
  have hDue := transportEnabled_of_clocks h (byteBits_ne_nil v) hCnt
  have hRun := macroRun_clocks h (byteBits_ne_nil v) hCnt.ge
  obtain ⟨t, hServe⟩ := transportService_next (clockAll (byteBits v) s)
  obtain ⟨u, hSettle, hQuiet, hLast⟩ := settle_transport hDue hServe
  rw [hSettle] at hRun
  rw [hPulsed] at hDue hServe
  obtain ⟨hStart, _⟩ | ⟨_, _, hServed⟩ := transportService_inv hDue hServe
  · nomatch hNoStart.symm.trans hStart
  obtain ⟨hController, hIdle, hReleased, hLevels, hEnded⟩ := hServed.command hState hRx hOe
  have hSame : SameController s { s with
      sr := v, cnt := 0, cntifg := true, levels := (byteBits v).reverse ++ s.levels } := ⟨rfl, rfl, rfl, rfl⟩
  have hCommand := hSame.apply s.cmd0 v
  have hAfter : exported u = exported t ∧ u.ie = t.ie ∧ u.cnt = t.cnt ∧ u.oe = false ∧ u.levels = t.levels ∧
      (u.wait = false → u.state = .idle) := by
    rcases hLast with rfl | ⟨_, rfl⟩ | rfl
    · exact ⟨rfl, rfl, rfl, hReleased, rfl, hEnded⟩
    · exact ⟨rfl, rfl, rfl, rfl, rfl, fun _ => rfl⟩
    · exact ⟨rfl, rfl, rfl, hReleased, rfl, hEnded⟩
  obtain ⟨hExported, hIe, hCnt', hOe', hLevels', hEnded'⟩ := hAfter
  refine ⟨{ u with levels := true :: u.levels }, ?_, ?_, ?_, hQuiet, ?_, hEnded'⟩
  · exact (macroRun_append hRun _).trans (macroRun_ignoredPulse true hQuiet (hCnt'.trans hIdle) hOe')
  · exact hExported.trans (hController.exported.trans hCommand.exported)
  · exact hIe.trans (hController.ie.trans hCommand.ie)
  · exact congrArg (true :: ·) (hLevels'.trans hLevels)

/-- Settles O47: the slots of the address and the opcode lead to a ready core with the opcode in the buffer, and the
value's slot executes the command. -/
theorem writeTransactionExecutesItsCommand : Obligations.WriteTransactionExecutesItsCommand := by
  unfold Obligations.WriteTransactionExecutesItsCommand
  intro s op v i hReady hDecode
  rw [eq_decodeCommand hDecode]
  have hPrefix := reaches_value hReady op
  obtain ⟨t, hRun, hExported, hIe, hQuiet, hLevels, hEnded⟩ := macroRun_valueSlot hPrefix.2 v rfl rfl rfl rfl
  have hSame : SameController s { s with
      direction := .write, rxCount := 1, txCount := 0, cmd0 := op, sr := 0x00, oe := false, cnt := 8, sttifg := false,
      cntifg := false, state := .rxEval,
      levels := (byteBits 0x16 ++ [false] ++ byteBits op ++ [false]).reverse ++ s.levels } := ⟨rfl, rfl, rfl, rfl⟩
  have hCommand := hSame.apply op v
  refine ⟨_, t, exec_decodeCommand op v s, ?_, ?_, hExported.trans hCommand.exported, hIe.trans hCommand.ie, hQuiet,
    hEnded⟩
  · exact (macroRun_append hPrefix.1 (writeSlot v)).trans hRun
  · rw [hLevels]
    rfl

/-! ## Read transactions -/

/-- The count stops at two, and so does the read window: the filler follows (R33, R62, R152). -/
theorem readWindow_min (s : State) (off : Nat) : readWindow (min off 2) s = readWindow off s := by
  rcases Nat.le_total off 2 with hOff | hOff
  · rw [Nat.min_eq_left hOff]
  · have hFirst : off ≠ 0 := by omega
    have hSecond : off ≠ 1 := by omega
    simp [Nat.min_eq_right hOff, readWindow_eq, hFirst, hSecond]

/-- The master leaves the line alone for eight pulses. -/
theorem byteBits_ones : byteBits 0xFF = List.replicate 8 true := by decide

/-- The eight pulses of a byte being sent (R149). -/
theorem reaches_sent {s : State} (h : Ready s) (hState : s.state = .ackWait) (hCnt : s.cnt = 8) (hOe : s.oe = true) :
    Reaches (List.replicate 8 (.clock true)) s { s with
      oe := false, cnt := 1, state := .ackEval, cntifg := false, levels := (byteBits s.sr).reverse ++ s.levels } := by
  have hOnes : s.sr &&& 0xFF = s.sr := BitVec.and_allOnes
  have hPulsed := clockAll_send 0xFF hCnt hOe
  rw [hOnes] at hPulsed
  have hReach := reaches_served h (byteBits_ne_nil 0xFF) hCnt hState hPulsed rfl rfl (ready_of_transport h rfl)
  rw [byteBits_ones, List.map_replicate] at hReach
  exact hReach

/-- The master's acknowledgment is shifted in as bit 0 (R128, R150). -/
theorem clockAll_acknowledgment {s : State} (a : Level) (hCnt : s.cnt = 1) (hOe : s.oe = false) :
    clockAll [a] s = { s with sr := shiftIn s.sr a, cnt := 0, cntifg := true, levels := a :: s.levels } := by
  rw [clockAll_single a hCnt, lineLevel_released a s hOe]

/-- The master acknowledges, and the next byte is loaded (R151, R152). -/
theorem reaches_nextByte {s : State} (h : Ready s) (hState : s.state = .ackEval) (hCnt : s.cnt = 1)
    (hOe : s.oe = false) : Reaches [.clock false] s { s with
      sr := readWindow s.txCount s, txCount := if s.txCount < 2 then s.txCount + 1 else s.txCount, oe := true, cnt := 8,
      state := .ackWait, cntifg := false, levels := false :: s.levels } := by
  have hAck : bitZero (shiftIn s.sr false) = false := shiftIn_getLsbD_zero _ _
  refine reaches_served (ms := [false]) h (List.cons_ne_nil _ _) hCnt hState (clockAll_acknowledgment false hCnt hOe)
    ((exec_ackEval_of_ack hAck).trans (congrArg Host.Outcome.next (txLoad_eq _))) ?_ (ready_of_transport h rfl)
  simp only [readWindow_eq]

/-- The master declines, and the read ends (R151). -/
theorem reaches_readEnd {s : State} (h : Ready s) (hState : s.state = .ackEval) (hCnt : s.cnt = 1)
    (hOe : s.oe = false) : Reaches [.clock true] s { s with
      sr := shiftIn s.sr true, oe := false, cnt := 0, direction := .write, rxCount := 0, txCount := 0, state := .idle,
      cntifg := false, levels := true :: s.levels } := by
  have hNack : bitZero (shiftIn s.sr true) = true := shiftIn_getLsbD_zero _ _
  exact reaches_served (ms := [true]) h (List.cons_ne_nil _ _) hCnt hState (clockAll_acknowledgment true hCnt hOe)
    (exec_ackEval_of_nack hNack) rfl (ready_of_transport h rfl)

/-- Byte `off` of the read window of `w`, whose sample is the core's, is loaded and armed out, and the count is at the
next one. -/
structure Loaded (w : State) (off : Nat) (s : State) : Prop where
  ready : Ready s
  sample : s.sample = w.sample
  state : s.state = .ackWait
  cnt : s.cnt = 8
  oe : s.oe = true
  sr : s.sr = readWindow off w
  txCount : s.txCount = min (off + 1) 2

/-- A byte sent and acknowledged, and the next one loaded (R149 to R152). -/
theorem Loaded.next {w s : State} {off : Nat} (h : Loaded w off s) : ∃ r tx,
    let t := { s with
      sr := r, txCount := tx, oe := true, cnt := 8, state := .ackWait, cntifg := false,
      levels := (byteBits (readWindow off w) ++ [false]).reverse ++ s.levels }
    Reaches (readSlot false) s t ∧ Loaded w (off + 1) t := by
  have hSent := reaches_sent h.ready h.state h.cnt h.oe
  have hNext := hSent.trans (reaches_nextByte hSent.2 rfl rfl rfl)
  rw [h.sr] at hNext
  have hByte : readWindow s.txCount s = readWindow (off + 1) w := by
    rw [h.txCount, readWindow_min, readWindow_congr h.sample]
  have hCount : (if s.txCount < 2 then s.txCount + 1 else s.txCount) = min (off + 1 + 1) 2 := by
    have hTx := h.txCount
    split <;> omega
  exact ⟨_, _, hNext, hNext.2, h.sample, rfl, rfl, rfl, hByte, hCount⟩

/-- The rest of a read, from a loaded byte on: `n` more bytes, the last declined (R94). -/
theorem reaches_readSlots {w s : State} {off : Nat} (n : Nat) (h : Loaded w off s) :
    ∃ r, Reaches (readSlots n) s { s with
      state := .idle, direction := .write, rxCount := 0, txCount := 0, sr := r, cnt := 0, oe := false, cntifg := false,
      levels := (readLevels w off n).reverse ++ s.levels } := by
  induction n generalizing s off with
  | zero =>
    have hSent := reaches_sent h.ready h.state h.cnt h.oe
    have hEnd := hSent.trans (reaches_readEnd hSent.2 rfl rfl rfl)
    rw [h.sr] at hEnd
    exact ⟨_, hEnd⟩
  | succ n ih =>
    obtain ⟨r, tx, hNext, hLoaded⟩ := h.next
    obtain ⟨r', hRest⟩ := ih hLoaded
    have hRead := hNext.trans hRest
    rw [← List.append_assoc, ← List.reverse_append] at hRead
    exact ⟨r', hRead⟩

/-- A read transaction up to its first loaded byte (R94, R148). -/
theorem reaches_loaded {s : State} (h : Ready s) :
    let t := { s with
      direction := .read, rxCount := 0, txCount := 1, sr := readWindow 0 s, oe := true, cnt := 8, sttifg := false,
      cntifg := false, state := .ackWait, levels := (byteBits 0x17 ++ [false]).reverse ++ s.levels }
    Reaches (.start :: writeSlot 0x17) s t ∧ Loaded s 0 t := by
  have hStart := reaches_start h
  have hAddress := hStart.trans (reaches_ownRead hStart.2 rfl rfl rfl)
  have hLoad := hAddress.trans (reaches_transmit hAddress.2 rfl rfl rfl rfl rfl)
  exact ⟨hLoad, hLoad.2, rfl, rfl, rfl, rfl, rfl, rfl⟩

/-- Settles O49: the address leads to the first loaded byte, and from there the read is an induction on its length. -/
theorem readTransactionReturnsTheReadWindow : Obligations.ReadTransactionReturnsTheReadWindow := by
  unfold Obligations.ReadTransactionReturnsTheReadWindow
  intro s n hReady
  obtain ⟨hAddress, hLoaded⟩ := reaches_loaded hReady
  obtain ⟨r, hRest⟩ := reaches_readSlots n hLoaded
  have hRead := hAddress.trans hRest
  rw [← List.append_assoc, ← List.reverse_append] at hRead
  exact ⟨_, hRead.1, rfl, rfl⟩

/-! ## A completion between the two loads -/

/-- In continuous mode with the interrupt enabled a completion goes through to the sample at once (R190, R198). -/
theorem reaches_completion {s : State} (h : Ready s) (v : Half) (hConverting : s.sc = true) (hIe : s.ie = true)
    (hContinuous : ContinuousMode s.params s.cch) :
    Reaches [.adcComplete v] s { s with adcres := v, adcifg := false, sample := v } := by
  obtain ⟨hUp, hTie, hWait, hNoStart, hNoCount, hNoAdc⟩ := ready_iff.1 h
  have hSc : (if isSingle s.params s.cch then false else s.sc) = s.sc :=
    if_neg fun hSingle => (isSingle_iff _ _).1 hSingle hContinuous
  have hLatch : adcLatch v s = { s with adcres := v, adcifg := true } := by rw [adcLatch, hSc]
  have hReady : Ready { s with adcres := v, adcifg := false, sample := v } :=
    ready_iff.2 ⟨hUp, hTie, hWait, hNoStart, hNoCount, fun _ => rfl⟩
  have hDue : enabledStep { s with adcres := v, adcifg := true } = some .adc :=
    enabledStep_adc.2 ⟨adcEnabled_iff.2 ⟨rfl, hIe, hWait⟩, by simp [transportEnabled, hNoStart, hNoCount]⟩
  have hTaken : takeEvent (.adcComplete v) s = .next (adcLatch v s) := if_pos hConverting
  refine ⟨?_, hReady⟩
  rw [macroRun_singleton, macroStep, hTaken, hLatch]
  exact (settle_of_internal 1 hDue rfl).trans (settle_of_quiescent 1 hReady.quiet)

/-- Pulses do not see a new sample. -/
theorem clockAll_newSample (ms : List Level) (s : State) (v : Half) :
    clockAll ms { s with adcres := v, adcifg := false, sample := v } =
      { clockAll ms s with adcres := v, adcifg := false, sample := v } := by
  induction ms generalizing s with
  | nil => rfl
  | cons m ms ih =>
    have hPulse : clockEvent m { s with adcres := v, adcifg := false, sample := v } =
        { clockEvent m s with adcres := v, adcifg := false, sample := v } := by
      rcases Nat.eq_zero_or_pos s.cnt with hIdle | hArmed
      · rw [clockEvent_idle m s hIdle]
        exact clockEvent_idle m _ hIdle
      · rw [clockEvent_shifting m s hArmed]
        exact clockEvent_shifting m _ hArmed
    rw [clockAll, clockAll, hPulse, ih]

theorem clockAll_append (ms ms' : List Level) (s : State) : clockAll (ms ++ ms') s = clockAll ms' (clockAll ms s) := by
  induction ms generalizing s with
  | nil => rfl
  | cons m ms ih => exact ih (clockEvent m s)

/-- The byte being sent when the completion comes goes out whole, wherever among its eight pulses that is (R74). -/
theorem reaches_tornByte {s : State} (h : Ready s) (hState : s.state = .ackWait) (hCnt : s.cnt = 8) (hOe : s.oe = true)
    (v : Half) (hConverting : s.sc = true) (hIe : s.ie = true) (hContinuous : ContinuousMode s.params s.cch) {k : Nat}
    (hk : k ≤ 8) :
    Reaches (List.replicate k (.clock true) ++ [.adcComplete v] ++ List.replicate (8 - k) (.clock true)) s { s with
      adcres := v, adcifg := false, sample := v, oe := false, cnt := 1, state := .ackEval, cntifg := false,
      levels := (byteBits s.sr).reverse ++ s.levels } := by
  have hSent := reaches_sent h hState hCnt hOe
  rcases Nat.eq_or_lt_of_le hk with rfl | hBefore
  · rw [Nat.sub_self, List.replicate_zero, List.append_nil]
    exact hSent.trans (reaches_completion hSent.2 v hConverting hIe hContinuous)
  have hLen : (List.replicate k true).length < s.cnt := by rw [List.length_replicate]; omega
  have hPulses := reaches_clocks h hLen
  have hFrame : (clockAll (List.replicate k true) s).sc = s.sc ∧ (clockAll (List.replicate k true) s).ie = s.ie ∧
      (clockAll (List.replicate k true) s).params = s.params ∧ (clockAll (List.replicate k true) s).cch = s.cch ∧
      (clockAll (List.replicate k true) s).state = s.state ∧ (clockAll (List.replicate k true) s).cnt = 8 - k := by
    rw [clockAll_armed (by omega) hLen.le, hCnt, List.length_replicate]
    exact ⟨rfl, rfl, rfl, rfl, rfl, rfl⟩
  obtain ⟨hSc, hIe', hParams, hCch, hState', hCnt'⟩ := hFrame
  have hCompletion := reaches_completion hPulses.2 v (hSc.trans hConverting) (hIe'.trans hIe)
    (by rwa [hParams, hCch])
  have hWhole : List.replicate k true ++ List.replicate (8 - k) true = byteBits 0xFF := by
    rw [List.replicate_append_replicate, Nat.add_sub_cancel' hk, byteBits_ones]
  have hOnes : s.sr &&& 0xFF = s.sr := BitVec.and_allOnes
  have hPulsed := clockAll_newSample (List.replicate (8 - k) true) (clockAll (List.replicate k true) s) v
  rw [← clockAll_append, hWhole, clockAll_send 0xFF hCnt hOe, hOnes] at hPulsed
  have hRest := reaches_served (ms := List.replicate (8 - k) true) (q := .ackWait) hCompletion.2
    (by rw [ne_eq, List.replicate_eq_nil_iff]; omega) (by rw [List.length_replicate]; exact hCnt')
    (hState'.trans hState) hPulsed rfl rfl
    (ready_of_transport (reaches_completion h v hConverting hIe hContinuous).2 rfl)
  rw [List.map_replicate] at hPulses hRest
  exact (hPulses.trans hCompletion).trans hRest

/-- Settles O50: the torn byte is that of the old sample, loaded before the completion, and the next load reads the new
one. -/
theorem tornReadMixesTwoSamples : Obligations.TornReadMixesTwoSamples := by
  unfold Obligations.TornReadMixesTwoSamples
  intro s v k hk hReady hConverting hIe hContinuous
  obtain ⟨hAddress, hLoaded⟩ := reaches_loaded hReady
  have hTorn := reaches_tornByte hLoaded.ready rfl rfl rfl v hConverting hIe hContinuous hk
  have hNext := reaches_nextByte hTorn.2 rfl rfl rfl
  have hSecond : Loaded { s with sample := v } 1 _ := ⟨hNext.2, rfl, rfl, rfl, rfl, rfl, rfl⟩
  obtain ⟨r, hEnd⟩ := reaches_readSlots 0 hSecond
  have hRead := hAddress.trans (hTorn.trans (hNext.trans hEnd))
  refine ⟨_, (congrArg (macroRun · s) ?_).trans hRead.1, rfl, rfl, rfl⟩
  simp only [List.append_assoc, List.cons_append, readSlots]

end Sys2Proof
end
